-- ==== Sys2Proof/Word.lean ====
section
/-! DEFINITION. The machine word. Every value of the block that the spec gives XLEN or fewer bits, and every 64-bit
value, is carried in 64 bits (log 4). At XLEN=32 an XLEN-bit value has its upper 32 bits zero. -/

namespace Sys2Proof

/-- A value of at most 64 bits, bit 0 the least significant (00_scope.md R9, R11). -/
abbrev Word := BitVec 64

end Sys2Proof
end

