-- ==== Sys2Proof/Config.lean ====
section
/-! DEFINITION. What is fixed for one hart instance (R6, R8), what the environment supplies anew on every command
(R7) and the reset draw (R8, R601). All of it is plain data held in State, so that a statement about every state is a
statement about every parameter, every capability input and every draw. -/

namespace Sys2Proof

/-- The register width, fixed for the lifetime of an instance (00_scope.md R6). -/
inductive Xlen where
  | rv32
  | rv64
  deriving DecidableEq, Repr

/-- The parameters of one hart instance (00_scope.md R8), with the two parameters of its host: RESET_PC (R602) and
whether the host records the instruction bits, or 0, as the trap value of IllegalInstr (R510). -/
structure Params where
  xlen : Xlen
  /-- The misa letters; bits 2, 3 and 5 are ignored. -/
  misaFixed : BitVec 26
  mvendorid : Word
  marchid : Word
  mimpid : Word
  mhartid : Word
  /-- Whether a 64-bit satp recognizes mode 9. -/
  haveSv48 : Bool
  /-- The address the host starts at. -/
  resetPc : Word
  /-- The host's choice of the trap value of IllegalInstr (log 9). -/
  illegalTvalBits : Bool
  deriving DecidableEq, Repr

/-- The Boolean capability inputs (00_scope.md R7); `next_pc` stands beside them among the inputs. -/
structure Caps where
  writableMisa : Bool
  rvcBoot : Bool
  fdextBoot : Bool
  vetoDisableC : Bool
  deriving DecidableEq, Repr

/-- RESET_DRAW: one value for each register whose reset value is implementation-defined (70_reset_and_hazards.md
R601). It is a free input of RESET; Machine/Reset.lean maps it onto the legal draws (log 3). -/
structure Draw where
  mstatus : Word
  mip : Word
  mie : Word
  mideleg : Word
  medeleg : Word
  mtvec : Word
  stvec : Word
  mcause : Word
  scause : Word
  mepc : Word
  sepc : Word
  mtval : Word
  stval : Word
  mscratch : Word
  sscratch : Word
  mcounteren : BitVec 32
  scounteren : BitVec 32
  mcountinhibit : BitVec 32
  satp : Word
  mcycle : Word
  mtime : Word
  minstret : Word
  tselect : Word
  curInst : Word
  deriving DecidableEq, Repr

/-- The default draw of R601: every drawn value 0 (log 2). -/
def Draw.zero : Draw :=
  { mstatus := 0, mip := 0, mie := 0, mideleg := 0, medeleg := 0, mtvec := 0, stvec := 0, mcause := 0, scause := 0,
    mepc := 0, sepc := 0, mtval := 0, stval := 0, mscratch := 0, sscratch := 0, mcounteren := 0, scounteren := 0,
    mcountinhibit := 0, satp := 0, mcycle := 0, mtime := 0, minstret := 0, tselect := 0, curInst := 0 }

/-- Configuration C64 of 95_test_vectors.md section 1, with RESET_PC of its section 13 (DESIGN CHOICE, log 1). -/
def Params.c64 : Params :=
  { xlen := .rv64, misaFixed := 0x141101, mvendorid := 0, marchid := 0, mimpid := 0, mhartid := 0,
    haveSv48 := true, resetPc := 0x1000, illegalTvalBits := true }

/-- The capability inputs of C64. -/
def Caps.c64 : Caps :=
  { writableMisa := true, rvcBoot := true, fdextBoot := true, vetoDisableC := false }

end Sys2Proof
end

