-- ==== Sys2Proof/Syntax.lean ====
section
/-! DEFINITION. The names of the machine: the enumerations of R12, the CSRs of R130, the internal registers of R131, the
extension ids of R125, and Instr with one constructor for each row of spec/opcode_table.json. A constructor carries the
fields the row leaves free; every other operand comes from the command port (30_encoding.md R126). -/

namespace Sys2Proof

/-- Privilege levels (00_scope.md R12). The code 0b10 names none. -/
inductive Privilege where
  | user
  | supervisor
  | machine
  deriving DecidableEq, Repr

/-- Register widths a stored Architecture code can name (00_scope.md R12). -/
inductive Architecture where
  | rv32
  | rv64
  | rv128
  deriving DecidableEq, Repr

/-- The kinds of access EFF_PRIV distinguishes (00_scope.md R12, 30_encoding.md R124). -/
inductive AccessKind where
  | read
  | write
  | readWrite
  | execute
  deriving DecidableEq, Repr

/-- The extension-context status codes of FS and XS (00_scope.md R12). -/
inductive ExtStatus where
  | off
  | initial
  | clean
  | dirty
  deriving DecidableEq, Repr

/-- The CSRs of 30_encoding.md R130, in the order of the opcode table. -/
inductive Csr where
  | misa
  | mstatus
  | mip
  | mie
  | mideleg
  | medeleg
  | mtvec
  | mcounteren
  | mcountinhibit
  | mscratch
  | mepc
  | mcause
  | mtval
  | mvendorid
  | marchid
  | mimpid
  | mhartid
  | tselect
  | mcycle
  | minstret
  | mcycleh
  | minstreth
  | stvec
  | scounteren
  | sscratch
  | sepc
  | scause
  | stval
  | satp
  | sstatus
  | sip
  | sie
  | sideleg
  | sedeleg
  deriving DecidableEq, Repr

/-- The registers of the internal selector (30_encoding.md R131). -/
inductive IntReg where
  | curPrivilege
  | curInst
  | minstretWritten
  | mtime
  | mcycle
  | minstret
  deriving DecidableEq, Repr

/-- The extensions HAVE_EXT asks about (30_encoding.md R125). -/
inductive Ext where
  | a
  | c
  | m
  | s
  | u
  | n
  | f
  | d
  deriving DecidableEq, Repr

/-- Where a 32-bit word is presented: at the block's command port (R122) or at the host's instruction fetch (R445-R451). -/
inductive Channel where
  | command
  | instruction
  deriving DecidableEq, Repr

/-- One constructor per row of spec/opcode_table.json. -/
inductive Instr where
  /-- CSR_READ_misa (R232). -/
  | csrReadMisa
  /-- CSR_WRITE_misa (R233). -/
  | csrWriteMisa
  /-- CSR_READ_mstatus (R234). -/
  | csrReadMstatus
  /-- CSR_WRITE_mstatus (R235). -/
  | csrWriteMstatus
  /-- CSR_READ_mip (R236). -/
  | csrReadMip
  /-- CSR_WRITE_mip (R237). -/
  | csrWriteMip
  /-- CSR_READ_mie (R238). -/
  | csrReadMie
  /-- CSR_WRITE_mie (R239). -/
  | csrWriteMie
  /-- CSR_READ_mideleg (R240). -/
  | csrReadMideleg
  /-- CSR_WRITE_mideleg (R241). -/
  | csrWriteMideleg
  /-- CSR_READ_medeleg (R242). -/
  | csrReadMedeleg
  /-- CSR_WRITE_medeleg (R243). -/
  | csrWriteMedeleg
  /-- CSR_READ_mtvec (R244). -/
  | csrReadMtvec
  /-- CSR_WRITE_mtvec (R245). -/
  | csrWriteMtvec
  /-- CSR_READ_mcounteren (R246). -/
  | csrReadMcounteren
  /-- CSR_WRITE_mcounteren (R247). -/
  | csrWriteMcounteren
  /-- CSR_READ_mcountinhibit (R248). -/
  | csrReadMcountinhibit
  /-- CSR_WRITE_mcountinhibit (R249). -/
  | csrWriteMcountinhibit
  /-- CSR_READ_mscratch (R250). -/
  | csrReadMscratch
  /-- CSR_WRITE_mscratch (R251). -/
  | csrWriteMscratch
  /-- CSR_READ_mepc (R252). -/
  | csrReadMepc
  /-- CSR_WRITE_mepc (R253). -/
  | csrWriteMepc
  /-- CSR_READ_mcause (R254). -/
  | csrReadMcause
  /-- CSR_WRITE_mcause (R255). -/
  | csrWriteMcause
  /-- CSR_READ_mtval (R256). -/
  | csrReadMtval
  /-- CSR_WRITE_mtval (R257). -/
  | csrWriteMtval
  /-- CSR_READ_mvendorid (R258). -/
  | csrReadMvendorid
  /-- CSR_WRITE_mvendorid (R259). -/
  | csrWriteMvendorid
  /-- CSR_READ_marchid (R260). -/
  | csrReadMarchid
  /-- CSR_WRITE_marchid (R261). -/
  | csrWriteMarchid
  /-- CSR_READ_mimpid (R262). -/
  | csrReadMimpid
  /-- CSR_WRITE_mimpid (R263). -/
  | csrWriteMimpid
  /-- CSR_READ_mhartid (R264). -/
  | csrReadMhartid
  /-- CSR_WRITE_mhartid (R265). -/
  | csrWriteMhartid
  /-- CSR_READ_tselect (R266). -/
  | csrReadTselect
  /-- CSR_WRITE_tselect (R267). -/
  | csrWriteTselect
  /-- CSR_READ_mcycle (R268). -/
  | csrReadMcycle
  /-- CSR_WRITE_mcycle (R269). -/
  | csrWriteMcycle
  /-- CSR_READ_minstret (R270). -/
  | csrReadMinstret
  /-- CSR_WRITE_minstret (R271). -/
  | csrWriteMinstret
  /-- CSR_READ_mcycleh (R272). -/
  | csrReadMcycleh
  /-- CSR_WRITE_mcycleh (R273). -/
  | csrWriteMcycleh
  /-- CSR_READ_minstreth (R274). -/
  | csrReadMinstreth
  /-- CSR_WRITE_minstreth (R275). -/
  | csrWriteMinstreth
  /-- CSR_READ_stvec (R276). -/
  | csrReadStvec
  /-- CSR_WRITE_stvec (R277). -/
  | csrWriteStvec
  /-- CSR_READ_scounteren (R278). -/
  | csrReadScounteren
  /-- CSR_WRITE_scounteren (R279). -/
  | csrWriteScounteren
  /-- CSR_READ_sscratch (R280). -/
  | csrReadSscratch
  /-- CSR_WRITE_sscratch (R281). -/
  | csrWriteSscratch
  /-- CSR_READ_sepc (R282). -/
  | csrReadSepc
  /-- CSR_WRITE_sepc (R283). -/
  | csrWriteSepc
  /-- CSR_READ_scause (R284). -/
  | csrReadScause
  /-- CSR_WRITE_scause (R285). -/
  | csrWriteScause
  /-- CSR_READ_stval (R286). -/
  | csrReadStval
  /-- CSR_WRITE_stval (R287). -/
  | csrWriteStval
  /-- CSR_READ_satp (R288). -/
  | csrReadSatp
  /-- CSR_WRITE_satp (R289). -/
  | csrWriteSatp
  /-- CSR_READ_sstatus (R301). -/
  | csrReadSstatus
  /-- CSR_WRITE_sstatus (R302). -/
  | csrWriteSstatus
  /-- CSR_READ_sip (R303). -/
  | csrReadSip
  /-- CSR_WRITE_sip (R304). -/
  | csrWriteSip
  /-- CSR_READ_sie (R305). -/
  | csrReadSie
  /-- CSR_WRITE_sie (R306). -/
  | csrWriteSie
  /-- CSR_READ_sideleg (R307). -/
  | csrReadSideleg
  /-- CSR_WRITE_sideleg (R308). -/
  | csrWriteSideleg
  /-- CSR_READ_sedeleg (R309). -/
  | csrReadSedeleg
  /-- CSR_WRITE_sedeleg (R310). -/
  | csrWriteSedeleg
  /-- CSR_READ__unassigned_address (R290). -/
  | csrReadUnassigned (addr : BitVec 12)
  /-- CSR_WRITE__unassigned_address (R290). -/
  | csrWriteUnassigned (addr : BitVec 12)
  /-- RAW_READ (R400). -/
  | rawRead (addr : BitVec 12)
  /-- RAW_WRITE (R403). -/
  | rawWrite (addr : BitVec 12)
  /-- INT_READ_cur_privilege (R405). -/
  | intReadCurPrivilege
  /-- INT_WRITE_cur_privilege (R406). -/
  | intWriteCurPrivilege
  /-- INT_READ_cur_inst (R405). -/
  | intReadCurInst
  /-- INT_WRITE_cur_inst (R406). -/
  | intWriteCurInst
  /-- INT_READ_minstret_written (R405). -/
  | intReadMinstretWritten
  /-- INT_WRITE_minstret_written (R406). -/
  | intWriteMinstretWritten
  /-- INT_READ_mtime (R405). -/
  | intReadMtime
  /-- INT_WRITE_mtime (R406). -/
  | intWriteMtime
  /-- INT_READ_mcycle (R405). -/
  | intReadMcycle
  /-- INT_WRITE_mcycle (R406). -/
  | intWriteMcycle
  /-- INT_READ_minstret (R405). -/
  | intReadMinstret
  /-- INT_WRITE_minstret (R406). -/
  | intWriteMinstret
  /-- EFF_PRIV_Read (R341). -/
  | effPrivRead
  /-- EFF_PRIV_Write (R341). -/
  | effPrivWrite
  /-- EFF_PRIV_ReadWrite (R341). -/
  | effPrivReadWrite
  /-- EFF_PRIV_Execute (R341). -/
  | effPrivExecute
  /-- CUR_ARCH (R343). -/
  | curArch
  /-- TVEC_ADDR_M (R346). -/
  | tvecAddrM
  /-- TVEC_ADDR_S (R347). -/
  | tvecAddrS
  /-- PC_ALIGN_MASK (R349). -/
  | pcAlignMask
  /-- HAVE_EXT_A (R351). -/
  | haveExtA
  /-- HAVE_EXT_C (R351). -/
  | haveExtC
  /-- HAVE_EXT_M (R351). -/
  | haveExtM
  /-- HAVE_EXT_S (R351). -/
  | haveExtS
  /-- HAVE_EXT_U (R351). -/
  | haveExtU
  /-- HAVE_EXT_N (R351). -/
  | haveExtN
  /-- HAVE_EXT_F (R351). -/
  | haveExtF
  /-- HAVE_EXT_D (R351). -/
  | haveExtD
  /-- RETIRE (R371). -/
  | retire
  /-- ACCESS_CHECK_read (R420). -/
  | accessCheckRead (addr : BitVec 12)
  /-- ACCESS_CHECK_write (R420). -/
  | accessCheckWrite (addr : BitVec 12)
  /-- TRAP_ENTER_exception (R430). -/
  | trapEnterException
  /-- TRAP_ENTER_interrupt (R430). -/
  | trapEnterInterrupt
  /-- XRET_MRET (R434). -/
  | xretMret
  /-- XRET_SRET (R435). -/
  | xretSret
  /-- RESET (R600). -/
  | reset
  /-- CSRRW (R445). -/
  | csrrw (rd : BitVec 5) (csr : BitVec 12) (rs1 : BitVec 5)
  /-- CSRRS (R446). -/
  | csrrs (rd : BitVec 5) (csr : BitVec 12) (rs1 : BitVec 5)
  /-- CSRRC (R447). -/
  | csrrc (rd : BitVec 5) (csr : BitVec 12) (rs1 : BitVec 5)
  /-- CSRRWI (R448). -/
  | csrrwi (rd : BitVec 5) (csr : BitVec 12) (uimm : BitVec 5)
  /-- CSRRSI (R449). -/
  | csrrsi (rd : BitVec 5) (csr : BitVec 12) (uimm : BitVec 5)
  /-- CSRRCI (R450). -/
  | csrrci (rd : BitVec 5) (csr : BitVec 12) (uimm : BitVec 5)
  /-- MRET (R451). -/
  | mret
  /-- SRET (R451). -/
  | sret
  /-- ECALL (R451). -/
  | ecall
  /-- EBREAK (R451). -/
  | ebreak
  /-- WFI (R451). -/
  | wfi
  deriving DecidableEq, Repr

end Sys2Proof
end

