-- ==== Sys2Proof/Machine/CsrMap.lean ====
section
/-! DEFINITION. The address maps: CSR numbers and their kinds (30_encoding.md R130, R132), the internal selector (R131)
and the extension ids (R125). -/

namespace Sys2Proof

/-- The CSR number of a register (30_encoding.md R130). -/
def Csr.addr : Csr → BitVec 12
  | .misa => 0x301
  | .mstatus => 0x300
  | .mip => 0x344
  | .mie => 0x304
  | .mideleg => 0x303
  | .medeleg => 0x302
  | .mtvec => 0x305
  | .mcounteren => 0x306
  | .mcountinhibit => 0x320
  | .mscratch => 0x340
  | .mepc => 0x341
  | .mcause => 0x342
  | .mtval => 0x343
  | .mvendorid => 0xF11
  | .marchid => 0xF12
  | .mimpid => 0xF13
  | .mhartid => 0xF14
  | .tselect => 0x7A0
  | .mcycle => 0xB00
  | .minstret => 0xB02
  | .mcycleh => 0xB80
  | .minstreth => 0xB82
  | .stvec => 0x105
  | .scounteren => 0x106
  | .sscratch => 0x140
  | .sepc => 0x141
  | .scause => 0x142
  | .stval => 0x143
  | .satp => 0x180
  | .sstatus => 0x100
  | .sip => 0x144
  | .sie => 0x104
  | .sideleg => 0x103
  | .sedeleg => 0x102

/-- Every CSR of R130. -/
def Csr.all : List Csr :=
  [.misa, .mstatus, .mip, .mie, .mideleg, .medeleg,
    .mtvec, .mcounteren, .mcountinhibit, .mscratch, .mepc, .mcause,
    .mtval, .mvendorid, .marchid, .mimpid, .mhartid, .tselect,
    .mcycle, .minstret, .mcycleh, .minstreth, .stvec, .scounteren,
    .sscratch, .sepc, .scause, .stval, .satp, .sstatus,
    .sip, .sie, .sideleg, .sedeleg]

/-- The register a CSR number names, if R130 assigns it. The two half counters are listed whatever XLEN is. -/
def Csr.ofAddr (a : BitVec 12) : Option Csr := Csr.all.find? fun c => c.addr == a

/-- The views, which have no storage (30_encoding.md R132, 10_state.md R31). -/
def Csr.isView : Csr → Bool
  | .sstatus | .sip | .sie | .sideleg | .sedeleg => true
  | _ => false

/-- The informational registers 0xF11 to 0xF14 (41_machine_csrs.md R231). -/
def Csr.isReadOnly : Csr → Bool
  | .mvendorid | .marchid | .mimpid | .mhartid => true
  | _ => false

/-- The upper halves of the counters, assigned when XLEN=32 only (30_encoding.md R130). -/
def Csr.isHigh : Csr → Bool
  | .mcycleh | .minstreth => true
  | _ => false

/-- Whether R130 assigns the register's number at this XLEN. -/
def Csr.assignedAt (x : Xlen) (c : Csr) : Bool := !(c.isHigh && decide (x = .rv64))

/-- The selector of an internal register (30_encoding.md R131). -/
def IntReg.sel : IntReg → BitVec 12
  | .curPrivilege => 0x000
  | .curInst => 0x001
  | .minstretWritten => 0x002
  | .mtime => 0x003
  | .mcycle => 0x004
  | .minstret => 0x005

/-- Every internal register of R131. -/
def IntReg.all : List IntReg := [.curPrivilege, .curInst, .minstretWritten, .mtime, .mcycle, .minstret]

/-- The internal register a selector names; 0x006 to 0xFFF are reserved (30_encoding.md R131). -/
def IntReg.ofSel (a : BitVec 12) : Option IntReg := IntReg.all.find? fun r => r.sel == a

/-- The extension id (30_encoding.md R125). -/
def Ext.id : Ext → BitVec 4
  | .a => 0
  | .c => 1
  | .m => 2
  | .s => 3
  | .u => 4
  | .n => 5
  | .f => 6
  | .d => 7

/-- Every extension of R125. -/
def Ext.all : List Ext := [.a, .c, .m, .s, .u, .n, .f, .d]

/-- The extension an id names; 8 to 15 are reserved (30_encoding.md R125). -/
def Ext.ofId (e : BitVec 4) : Option Ext := Ext.all.find? fun x => x.id == e

end Sys2Proof
end

