-- ==== Sys2Proof/WellFormed.lean ====
section
/-! DEFINITION. Well-formed instructions: the terms some word decodes to. Every field of a constructor admits every
value, but for the two rows of R290, whose CSR number must be one R130 assigns to no register. -/

namespace Sys2Proof

/-- No register has this CSR number at any XLEN (41_machine_csrs.md R290). -/
def unassigned (addr : BitVec 12) : Bool := (Csr.ofAddr addr).isNone

/-- The check an instruction must pass (log 18). -/
def Instr.wellFormed : Instr → Bool
  | .csrReadUnassigned addr => unassigned addr
  | .csrWriteUnassigned addr => unassigned addr
  | _ => true

end Sys2Proof
end

