-- ==== Sys2Proof/Decode.lean ====
section
/-! DEFINITION. Decoding and encoding. The block reads command words (30_encoding.md R122 to R127), the host reads the
SYSTEM instructions that reach the block (45_host_ports.md R445 to R451). No value is split into bytes (20_memory.md
R101), so a decoder reads one 32-bit word and is total on it. -/

namespace Sys2Proof

/-- Why a word is no instruction of the table. -/
inductive DecodeError where
  /-- A command word R127 reserves. -/
  | reservedEncoding
  /-- An instruction word outside the host rows of the table: the block never sees it, the host executes it
  (00_scope.md R5, log 19). -/
  | notInTable
  deriving DecidableEq, Repr

/-- The answer of a decoder. -/
abbrev Decoded := Except DecodeError Instr

/-- `OP` of a command word (30_encoding.md R122). -/
def cmdOp (w : BitVec 32) : BitVec 4 := w.extractLsb' 28 4

/-- `SUB` of a command word. -/
def cmdSub (w : BitVec 32) : BitVec 4 := w.extractLsb' 24 4

/-- `RSV` of a command word. -/
def cmdRsv (w : BitVec 32) : BitVec 12 := w.extractLsb' 12 12

/-- `ADDR` of a command word. -/
def cmdAddr (w : BitVec 32) : BitVec 12 := w.extractLsb' 0 12

/-- A command word with RSV = 0 (30_encoding.md R122). -/
def cmdWord (op sub : BitVec 4) (addr : BitVec 12) : BitVec 32 := op ++ sub ++ 0#12 ++ addr

/-- CSR_READ of a register. -/
def Csr.readInstr : Csr → Instr
  | .misa => .csrReadMisa
  | .mstatus => .csrReadMstatus
  | .mip => .csrReadMip
  | .mie => .csrReadMie
  | .mideleg => .csrReadMideleg
  | .medeleg => .csrReadMedeleg
  | .mtvec => .csrReadMtvec
  | .mcounteren => .csrReadMcounteren
  | .mcountinhibit => .csrReadMcountinhibit
  | .mscratch => .csrReadMscratch
  | .mepc => .csrReadMepc
  | .mcause => .csrReadMcause
  | .mtval => .csrReadMtval
  | .mvendorid => .csrReadMvendorid
  | .marchid => .csrReadMarchid
  | .mimpid => .csrReadMimpid
  | .mhartid => .csrReadMhartid
  | .tselect => .csrReadTselect
  | .mcycle => .csrReadMcycle
  | .minstret => .csrReadMinstret
  | .mcycleh => .csrReadMcycleh
  | .minstreth => .csrReadMinstreth
  | .stvec => .csrReadStvec
  | .scounteren => .csrReadScounteren
  | .sscratch => .csrReadSscratch
  | .sepc => .csrReadSepc
  | .scause => .csrReadScause
  | .stval => .csrReadStval
  | .satp => .csrReadSatp
  | .sstatus => .csrReadSstatus
  | .sip => .csrReadSip
  | .sie => .csrReadSie
  | .sideleg => .csrReadSideleg
  | .sedeleg => .csrReadSedeleg

/-- CSR_WRITE of a register. -/
def Csr.writeInstr : Csr → Instr
  | .misa => .csrWriteMisa
  | .mstatus => .csrWriteMstatus
  | .mip => .csrWriteMip
  | .mie => .csrWriteMie
  | .mideleg => .csrWriteMideleg
  | .medeleg => .csrWriteMedeleg
  | .mtvec => .csrWriteMtvec
  | .mcounteren => .csrWriteMcounteren
  | .mcountinhibit => .csrWriteMcountinhibit
  | .mscratch => .csrWriteMscratch
  | .mepc => .csrWriteMepc
  | .mcause => .csrWriteMcause
  | .mtval => .csrWriteMtval
  | .mvendorid => .csrWriteMvendorid
  | .marchid => .csrWriteMarchid
  | .mimpid => .csrWriteMimpid
  | .mhartid => .csrWriteMhartid
  | .tselect => .csrWriteTselect
  | .mcycle => .csrWriteMcycle
  | .minstret => .csrWriteMinstret
  | .mcycleh => .csrWriteMcycleh
  | .minstreth => .csrWriteMinstreth
  | .stvec => .csrWriteStvec
  | .scounteren => .csrWriteScounteren
  | .sscratch => .csrWriteSscratch
  | .sepc => .csrWriteSepc
  | .scause => .csrWriteScause
  | .stval => .csrWriteStval
  | .satp => .csrWriteSatp
  | .sstatus => .csrWriteSstatus
  | .sip => .csrWriteSip
  | .sie => .csrWriteSie
  | .sideleg => .csrWriteSideleg
  | .sedeleg => .csrWriteSedeleg

/-- INT_READ of an internal register. -/
def IntReg.readInstr : IntReg → Instr
  | .curPrivilege => .intReadCurPrivilege
  | .curInst => .intReadCurInst
  | .minstretWritten => .intReadMinstretWritten
  | .mtime => .intReadMtime
  | .mcycle => .intReadMcycle
  | .minstret => .intReadMinstret

/-- INT_WRITE of an internal register. -/
def IntReg.writeInstr : IntReg → Instr
  | .curPrivilege => .intWriteCurPrivilege
  | .curInst => .intWriteCurInst
  | .minstretWritten => .intWriteMinstretWritten
  | .mtime => .intWriteMtime
  | .mcycle => .intWriteMcycle
  | .minstret => .intWriteMinstret

/-- HAVE_EXT of an extension. -/
def Ext.haveInstr : Ext → Instr
  | .a => .haveExtA
  | .c => .haveExtC
  | .m => .haveExtM
  | .s => .haveExtS
  | .u => .haveExtU
  | .n => .haveExtN
  | .f => .haveExtF
  | .d => .haveExtD

/-- The command of a word whose SUB and ADDR must both be 0 (30_encoding.md R127). -/
def plainCommand (sub : BitVec 4) (addr : BitVec 12) (i : Instr) : Decoded :=
  if sub = 0 ∧ addr = 0 then .ok i else .error .reservedEncoding

/-- The command of a word whose SUB picks one of two forms and whose ADDR must be 0 (30_encoding.md R127). -/
def pairCommand (sub : BitVec 4) (addr : BitVec 12) (i₀ i₁ : Instr) : Decoded :=
  if addr ≠ 0 then .error .reservedEncoding
  else if sub = 0 then .ok i₀ else if sub = 1 then .ok i₁ else .error .reservedEncoding

/-- The command of a word whose SUB must be 0 and whose ADDR is an operand (30_encoding.md R127). -/
def addrCommand (sub : BitVec 4) (i : Instr) : Decoded :=
  if sub = 0 then .ok i else .error .reservedEncoding

/-- The command a table lookup gives, or a reserved encoding where it gives none. -/
def lookedUp (i : Option Instr) : Decoded :=
  match i with
  | some i => .ok i
  | none => .error .reservedEncoding

/-- CSR_READ of a CSR number, assigned or not (41_machine_csrs.md R230, R290). -/
def csrReadRow (addr : BitVec 12) : Instr :=
  match Csr.ofAddr addr with
  | some c => c.readInstr
  | none => .csrReadUnassigned addr

/-- CSR_WRITE of a CSR number, assigned or not (41_machine_csrs.md R231, R290). -/
def csrWriteRow (addr : BitVec 12) : Instr :=
  match Csr.ofAddr addr with
  | some c => c.writeInstr
  | none => .csrWriteUnassigned addr

/-- EFF_PRIV by access kind (30_encoding.md R124). -/
def effPrivRow (sub : BitVec 4) : Option Instr :=
  match sub.toNat with
  | 0 => some .effPrivRead
  | 1 => some .effPrivWrite
  | 2 => some .effPrivReadWrite
  | 3 => some .effPrivExecute
  | _ => none

/-- The operation OP names, with its SUB and ADDR (30_encoding.md R123, R127). -/
def decodeOp (op sub : BitVec 4) (addr : BitVec 12) : Decoded :=
  match op.toNat with
  | 0x0 => addrCommand sub (csrReadRow addr)
  | 0x1 => addrCommand sub (csrWriteRow addr)
  | 0x2 => addrCommand sub (.rawRead addr)
  | 0x3 => addrCommand sub (.rawWrite addr)
  | 0x4 => if sub = 0 then lookedUp ((IntReg.ofSel addr).map IntReg.readInstr) else .error .reservedEncoding
  | 0x5 => if sub = 0 then lookedUp ((IntReg.ofSel addr).map IntReg.writeInstr) else .error .reservedEncoding
  | 0x6 => if addr = 0 then lookedUp (effPrivRow sub) else .error .reservedEncoding
  | 0x7 => plainCommand sub addr .curArch
  | 0x8 => pairCommand sub addr .tvecAddrM .tvecAddrS
  | 0x9 => plainCommand sub addr .pcAlignMask
  | 0xA => if addr = 0 then lookedUp ((Ext.ofId sub).map Ext.haveInstr) else .error .reservedEncoding
  | 0xB => plainCommand sub addr .retire
  | 0xC =>
    if sub = 0 then .ok (.accessCheckRead addr)
    else if sub = 1 then .ok (.accessCheckWrite addr) else .error .reservedEncoding
  | 0xD => pairCommand sub addr .trapEnterException .trapEnterInterrupt
  | 0xE => pairCommand sub addr .xretMret .xretSret
  | _ => plainCommand sub addr .reset

/-- The command a command word names, or R127's refusal of it. -/
def decodeCommand (w : BitVec 32) : Decoded :=
  if cmdRsv w ≠ 0 then .error .reservedEncoding else decodeOp (cmdOp w) (cmdSub w) (cmdAddr w)

/-- The SYSTEM opcode (45_host_ports.md section 6). -/
def systemOpcode : BitVec 7 := 0b1110011

/-- An I-format SYSTEM word (45_host_ports.md section 6). -/
def systemWord (hi : BitVec 12) (rs1 : BitVec 5) (funct3 : BitVec 3) (rd : BitVec 5) : BitVec 32 :=
  hi ++ rs1 ++ funct3 ++ rd ++ systemOpcode

/-- The instruction without operands that a word is, if it is one (45_host_ports.md R451). -/
def privilegedRow (w : BitVec 32) : Decoded :=
  if w = 0x30200073 then .ok .mret
  else if w = 0x10200073 then .ok .sret
  else if w = 0x00000073 then .ok .ecall
  else if w = 0x00100073 then .ok .ebreak
  else if w = 0x10500073 then .ok .wfi
  else .error .notInTable

/-- The host instruction of the table that an instruction word is (45_host_ports.md R445 to R451). -/
def decodeInstruction (w : BitVec 32) : Decoded :=
  let csr := w.extractLsb' 20 12
  let rs1 := w.extractLsb' 15 5
  let rd := w.extractLsb' 7 5
  if w.extractLsb' 0 7 ≠ systemOpcode then .error .notInTable
  else
    match (w.extractLsb' 12 3).toNat with
    | 0b001 => .ok (.csrrw rd csr rs1)
    | 0b010 => .ok (.csrrs rd csr rs1)
    | 0b011 => .ok (.csrrc rd csr rs1)
    | 0b101 => .ok (.csrrwi rd csr rs1)
    | 0b110 => .ok (.csrrsi rd csr rs1)
    | 0b111 => .ok (.csrrci rd csr rs1)
    | _ => privilegedRow w

/-- The decoder of a channel. -/
def decodeOn : Channel → BitVec 32 → Decoded
  | .command, w => decodeCommand w
  | .instruction, w => decodeInstruction w

/-- The channel an instruction of the table arrives on. -/
def Instr.channel : Instr → Channel
  | .csrrw _ _ _ | .csrrs _ _ _ | .csrrc _ _ _ | .csrrwi _ _ _ | .csrrsi _ _ _ | .csrrci _ _ _ => .instruction
  | .mret | .sret | .ecall | .ebreak | .wfi => .instruction
  | _ => .command

/-- The word of an instruction (30_encoding.md R122 to R125, R130, R131; 45_host_ports.md R445 to R451). -/
def encode : Instr → BitVec 32
  | .csrReadMisa => cmdWord 0x0 0 Csr.misa.addr
  | .csrWriteMisa => cmdWord 0x1 0 Csr.misa.addr
  | .csrReadMstatus => cmdWord 0x0 0 Csr.mstatus.addr
  | .csrWriteMstatus => cmdWord 0x1 0 Csr.mstatus.addr
  | .csrReadMip => cmdWord 0x0 0 Csr.mip.addr
  | .csrWriteMip => cmdWord 0x1 0 Csr.mip.addr
  | .csrReadMie => cmdWord 0x0 0 Csr.mie.addr
  | .csrWriteMie => cmdWord 0x1 0 Csr.mie.addr
  | .csrReadMideleg => cmdWord 0x0 0 Csr.mideleg.addr
  | .csrWriteMideleg => cmdWord 0x1 0 Csr.mideleg.addr
  | .csrReadMedeleg => cmdWord 0x0 0 Csr.medeleg.addr
  | .csrWriteMedeleg => cmdWord 0x1 0 Csr.medeleg.addr
  | .csrReadMtvec => cmdWord 0x0 0 Csr.mtvec.addr
  | .csrWriteMtvec => cmdWord 0x1 0 Csr.mtvec.addr
  | .csrReadMcounteren => cmdWord 0x0 0 Csr.mcounteren.addr
  | .csrWriteMcounteren => cmdWord 0x1 0 Csr.mcounteren.addr
  | .csrReadMcountinhibit => cmdWord 0x0 0 Csr.mcountinhibit.addr
  | .csrWriteMcountinhibit => cmdWord 0x1 0 Csr.mcountinhibit.addr
  | .csrReadMscratch => cmdWord 0x0 0 Csr.mscratch.addr
  | .csrWriteMscratch => cmdWord 0x1 0 Csr.mscratch.addr
  | .csrReadMepc => cmdWord 0x0 0 Csr.mepc.addr
  | .csrWriteMepc => cmdWord 0x1 0 Csr.mepc.addr
  | .csrReadMcause => cmdWord 0x0 0 Csr.mcause.addr
  | .csrWriteMcause => cmdWord 0x1 0 Csr.mcause.addr
  | .csrReadMtval => cmdWord 0x0 0 Csr.mtval.addr
  | .csrWriteMtval => cmdWord 0x1 0 Csr.mtval.addr
  | .csrReadMvendorid => cmdWord 0x0 0 Csr.mvendorid.addr
  | .csrWriteMvendorid => cmdWord 0x1 0 Csr.mvendorid.addr
  | .csrReadMarchid => cmdWord 0x0 0 Csr.marchid.addr
  | .csrWriteMarchid => cmdWord 0x1 0 Csr.marchid.addr
  | .csrReadMimpid => cmdWord 0x0 0 Csr.mimpid.addr
  | .csrWriteMimpid => cmdWord 0x1 0 Csr.mimpid.addr
  | .csrReadMhartid => cmdWord 0x0 0 Csr.mhartid.addr
  | .csrWriteMhartid => cmdWord 0x1 0 Csr.mhartid.addr
  | .csrReadTselect => cmdWord 0x0 0 Csr.tselect.addr
  | .csrWriteTselect => cmdWord 0x1 0 Csr.tselect.addr
  | .csrReadMcycle => cmdWord 0x0 0 Csr.mcycle.addr
  | .csrWriteMcycle => cmdWord 0x1 0 Csr.mcycle.addr
  | .csrReadMinstret => cmdWord 0x0 0 Csr.minstret.addr
  | .csrWriteMinstret => cmdWord 0x1 0 Csr.minstret.addr
  | .csrReadMcycleh => cmdWord 0x0 0 Csr.mcycleh.addr
  | .csrWriteMcycleh => cmdWord 0x1 0 Csr.mcycleh.addr
  | .csrReadMinstreth => cmdWord 0x0 0 Csr.minstreth.addr
  | .csrWriteMinstreth => cmdWord 0x1 0 Csr.minstreth.addr
  | .csrReadStvec => cmdWord 0x0 0 Csr.stvec.addr
  | .csrWriteStvec => cmdWord 0x1 0 Csr.stvec.addr
  | .csrReadScounteren => cmdWord 0x0 0 Csr.scounteren.addr
  | .csrWriteScounteren => cmdWord 0x1 0 Csr.scounteren.addr
  | .csrReadSscratch => cmdWord 0x0 0 Csr.sscratch.addr
  | .csrWriteSscratch => cmdWord 0x1 0 Csr.sscratch.addr
  | .csrReadSepc => cmdWord 0x0 0 Csr.sepc.addr
  | .csrWriteSepc => cmdWord 0x1 0 Csr.sepc.addr
  | .csrReadScause => cmdWord 0x0 0 Csr.scause.addr
  | .csrWriteScause => cmdWord 0x1 0 Csr.scause.addr
  | .csrReadStval => cmdWord 0x0 0 Csr.stval.addr
  | .csrWriteStval => cmdWord 0x1 0 Csr.stval.addr
  | .csrReadSatp => cmdWord 0x0 0 Csr.satp.addr
  | .csrWriteSatp => cmdWord 0x1 0 Csr.satp.addr
  | .csrReadSstatus => cmdWord 0x0 0 Csr.sstatus.addr
  | .csrWriteSstatus => cmdWord 0x1 0 Csr.sstatus.addr
  | .csrReadSip => cmdWord 0x0 0 Csr.sip.addr
  | .csrWriteSip => cmdWord 0x1 0 Csr.sip.addr
  | .csrReadSie => cmdWord 0x0 0 Csr.sie.addr
  | .csrWriteSie => cmdWord 0x1 0 Csr.sie.addr
  | .csrReadSideleg => cmdWord 0x0 0 Csr.sideleg.addr
  | .csrWriteSideleg => cmdWord 0x1 0 Csr.sideleg.addr
  | .csrReadSedeleg => cmdWord 0x0 0 Csr.sedeleg.addr
  | .csrWriteSedeleg => cmdWord 0x1 0 Csr.sedeleg.addr
  | .csrReadUnassigned addr => cmdWord 0x0 0 addr
  | .csrWriteUnassigned addr => cmdWord 0x1 0 addr
  | .rawRead addr => cmdWord 0x2 0 addr
  | .rawWrite addr => cmdWord 0x3 0 addr
  | .intReadCurPrivilege => cmdWord 0x4 0 IntReg.curPrivilege.sel
  | .intWriteCurPrivilege => cmdWord 0x5 0 IntReg.curPrivilege.sel
  | .intReadCurInst => cmdWord 0x4 0 IntReg.curInst.sel
  | .intWriteCurInst => cmdWord 0x5 0 IntReg.curInst.sel
  | .intReadMinstretWritten => cmdWord 0x4 0 IntReg.minstretWritten.sel
  | .intWriteMinstretWritten => cmdWord 0x5 0 IntReg.minstretWritten.sel
  | .intReadMtime => cmdWord 0x4 0 IntReg.mtime.sel
  | .intWriteMtime => cmdWord 0x5 0 IntReg.mtime.sel
  | .intReadMcycle => cmdWord 0x4 0 IntReg.mcycle.sel
  | .intWriteMcycle => cmdWord 0x5 0 IntReg.mcycle.sel
  | .intReadMinstret => cmdWord 0x4 0 IntReg.minstret.sel
  | .intWriteMinstret => cmdWord 0x5 0 IntReg.minstret.sel
  | .effPrivRead => cmdWord 0x6 0b0000 0
  | .effPrivWrite => cmdWord 0x6 0b0001 0
  | .effPrivReadWrite => cmdWord 0x6 0b0010 0
  | .effPrivExecute => cmdWord 0x6 0b0011 0
  | .curArch => cmdWord 0x7 0 0
  | .tvecAddrM => cmdWord 0x8 0 0
  | .tvecAddrS => cmdWord 0x8 1 0
  | .pcAlignMask => cmdWord 0x9 0 0
  | .haveExtA => cmdWord 0xA Ext.a.id 0
  | .haveExtC => cmdWord 0xA Ext.c.id 0
  | .haveExtM => cmdWord 0xA Ext.m.id 0
  | .haveExtS => cmdWord 0xA Ext.s.id 0
  | .haveExtU => cmdWord 0xA Ext.u.id 0
  | .haveExtN => cmdWord 0xA Ext.n.id 0
  | .haveExtF => cmdWord 0xA Ext.f.id 0
  | .haveExtD => cmdWord 0xA Ext.d.id 0
  | .retire => cmdWord 0xB 0 0
  | .accessCheckRead addr => cmdWord 0xC 0 addr
  | .accessCheckWrite addr => cmdWord 0xC 1 addr
  | .trapEnterException => cmdWord 0xD 0 0
  | .trapEnterInterrupt => cmdWord 0xD 1 0
  | .xretMret => cmdWord 0xE 0 0
  | .xretSret => cmdWord 0xE 1 0
  | .reset => cmdWord 0xF 0 0
  | .csrrw rd csr rs1 => systemWord csr rs1 0b001 rd
  | .csrrs rd csr rs1 => systemWord csr rs1 0b010 rd
  | .csrrc rd csr rs1 => systemWord csr rs1 0b011 rd
  | .csrrwi rd csr uimm => systemWord csr uimm 0b101 rd
  | .csrrsi rd csr uimm => systemWord csr uimm 0b110 rd
  | .csrrci rd csr uimm => systemWord csr uimm 0b111 rd
  | .mret => 0x30200073
  | .sret => 0x10200073
  | .ecall => 0x00000073
  | .ebreak => 0x00100073
  | .wfi => 0x10500073

/-- Whether a word is one of the host rows of the table: the channel the table gives it. Of the block's commands only
CSR_READ of the unassigned number 0x073 shares its word, 0x00000073, with a host row, ECALL (log 13). -/
def tableChannel (w : BitVec 32) : Channel :=
  match decodeInstruction w with
  | .ok _ => .instruction
  | .error _ => .command

/-- The first 32 bits of an instruction whose table bits are `w`; bits above `nbits` are 0. -/
def tableWord (nbits w : Nat) : BitVec 32 := BitVec.ofNat 32 (w % 2 ^ nbits)

/-- The instruction the decoder reads from a word of the opcode table. -/
def decodeTableWord (nbits w : Nat) : Option Instr :=
  (decodeOn (tableChannel (tableWord nbits w)) (tableWord nbits w)).toOption

end Sys2Proof
end

