-- ==== Sys2Proof/Machine/State.lean ====
section
/-! DEFINITION. The state: the register store of 10_state.md R30, the ports of the block (R120, R121), the instance's
parameters (R6, R8), the host's pc and general registers (R32), and the list of what the host and the platform issue next
(R108). All of it is plain data. -/

namespace Sys2Proof.Machine

/-- The inputs of one command (30_encoding.md R120), with RESET's draw (70_reset_and_hazards.md R600). `tval`, `epc` and
`nextPc` are XLEN bits wide: the rules that use them take bits XLEN-1:0. -/
structure Inputs where
  cmd : BitVec 32
  wdata : Word
  wmask : Word
  tval : Word
  epc : Word
  nextPc : Word
  caps : Caps
  draw : Draw
  deriving DecidableEq, Repr

/-- Reasons of a rejection (30_encoding.md R128). -/
inductive RejectReason where
  | reservedEncoding
  | noSuchCsr
  | readOnly
  | notStorage
  | privilege
  | badValue
  deriving DecidableEq, Repr

/-- Reasons of a block fault (30_encoding.md R128, 60_exceptions.md R502). -/
inductive FaultReason where
  | invalidArch
  | invalidPrivilege
  | noTrapTarget
  | halted
  deriving DecidableEq, Repr

/-- The response to a command (60_exceptions.md R500): `ok` with the value of `rdata`, or with none when `rvalid` = 0. -/
inductive Response where
  | ok (rdata : Option Word)
  | rejected (r : RejectReason)
  | fault (r : FaultReason)
  deriving DecidableEq, Repr

/-- What comes of the host's own execution of an instruction the block never sees: the block has no part in it
(00_scope.md R5), so the result is an input that nothing constrains (log 19). -/
inductive HostResult where
  /-- It completes: x[rd] holds `value` (with rd = 0 nothing is written), and the host goes on at `target`. -/
  | retires (rd : BitVec 5) (value target : Word)
  /-- It raises an exception, with a code and a trap value of the host's choice (60_exceptions.md R510, R512). -/
  | raises (code tval : Word)
  deriving DecidableEq, Repr

/-- What the environment does next. Each entry is one step (20_memory.md R108). -/
inductive Request where
  /-- A command on the block's port (30_encoding.md R120). -/
  | command (p : Inputs)
  /-- The host executes the instruction word it fetched at its pc; `p` gives the capability inputs its commands present
  (45_host_ports.md R445 to R451). A word that is no row of the table comes to `host`; a row of the table does not use
  `host` (log 19). -/
  | instruction (word : BitVec 32) (host : HostResult) (p : Inputs)
  /-- The host looks for a pending interrupt and takes it if one is due (60_exceptions.md R520). -/
  | interrupt (p : Inputs)
  /-- The host raises an exception at its pc with no instruction executed there, such as a fetch the platform refuses
  (60_exceptions.md R510, R512, log 15). -/
  | exception (code tval : Word) (p : Inputs)
  deriving DecidableEq, Repr

/-- The state of one hart's register file and of its host. -/
structure State where
  /-- The instance's parameters (00_scope.md R6, R8). The informational registers mvendorid, marchid, mimpid and mhartid
  have their one home here (10_state.md R57). No rule changes them. -/
  params : Params
  /-- R34 -/
  misa : Word
  /-- R37 -/
  mstatus : Word
  /-- R42 -/
  mip : Word
  /-- R42 -/
  mie : Word
  /-- R42 -/
  mideleg : Word
  /-- R46 -/
  medeleg : Word
  /-- R48 -/
  mtvec : Word
  /-- R48 -/
  stvec : Word
  /-- R49 -/
  mcause : Word
  /-- R49 -/
  scause : Word
  /-- R50 -/
  mepc : Word
  /-- R50 -/
  sepc : Word
  /-- R51 -/
  mtval : Word
  /-- R51 -/
  stval : Word
  /-- R51 -/
  mscratch : Word
  /-- R51 -/
  sscratch : Word
  /-- R52 -/
  mcounteren : BitVec 32
  /-- R52 -/
  scounteren : BitVec 32
  /-- R53 -/
  mcountinhibit : BitVec 32
  /-- R54 -/
  satp : Word
  /-- R55 -/
  mcycle : Word
  /-- R55 -/
  mtime : Word
  /-- R55 -/
  minstret : Word
  /-- R56: an explicit write of minstret has happened since the last RETIRE. -/
  minstretWritten : Bool
  /-- R58 -/
  tselect : Word
  /-- R59: the hart's current privilege level. -/
  curPrivilege : Privilege
  /-- R59: the bits of the current instruction, which the host writes (log 12). -/
  curInst : Word
  /-- R59, R502: the block has faulted and stays halted. -/
  faulted : Bool
  /-- R120: the inputs of the command being executed. -/
  port : Inputs
  /-- R121: the response to the last command. -/
  out : Response
  /-- R32: the host's program counter. -/
  pc : Word
  /-- R32: the host's general registers; entry 0 is never read (Machine/Ops.lean `readX`). -/
  x : Vector Word 32
  /-- R108: what the host and the platform issue next, the first entry first (log 5). -/
  pending : List Request
  deriving DecidableEq, Repr

/-- Why the model stops with a fault. No rule of the spec stops the machine: a block fault is a response (log 6). -/
inductive Fault where
  /-- Raised by execCsrReadUnassigned and execCsrWriteUnassigned on a term that is not well-formed, a CSR number that R130
  does assign. No word decodes to such a term (log 18). Safe: the model stops where the spec says nothing. -/
  | illFormed
  deriving DecidableEq, Repr

/-- Why the model gives a step no meaning. -/
inductive Refusal where
  /-- Would be raised by exec for an instruction of the table without a meaning. There is none, so nothing raises it.
  Safe. -/
  | notModelled (mnemonic : String)
  deriving DecidableEq, Repr

/-- The inputs as they stand before the first command: the capabilities of C64, everything else 0 (log 20). -/
def Inputs.idle : Inputs :=
  { cmd := 0, wdata := 0, wmask := 0, tval := 0, epc := 0, nextPc := 0, caps := Caps.c64, draw := Draw.zero }

/-- The machine right after reset in configuration C64 with the default draw (70_reset_and_hazards.md R601,
95_test_vectors.md section 1; log 1, log 2, log 7, log 20). -/
def State.reset : State :=
  { params := Params.c64
    misa := 0x800000000014112D
    mstatus := 0x0000000A00000000
    mip := 0
    mie := 0
    mideleg := 0
    medeleg := 0
    mtvec := 0
    stvec := 0
    mcause := 0
    scause := 0
    mepc := 0
    sepc := 0
    mtval := 0
    stval := 0
    mscratch := 0
    sscratch := 0
    mcounteren := 0
    scounteren := 0
    mcountinhibit := 0
    satp := 0
    mcycle := 0
    mtime := 0
    minstret := 0
    minstretWritten := false
    tselect := 0
    curPrivilege := .machine
    curInst := 0
    faulted := false
    port := Inputs.idle
    out := .ok none
    pc := 0x1000
    x := Vector.replicate 32 0
    pending := [] }

end Sys2Proof.Machine
end

