-- ==== Sys2Proof/Machine/Operands.lean ====
section
/-! DEFINITION. Operand assembly (30_encoding.md R126, 20_memory.md R102), the width operations of R10, and the codes of
the enumerations (00_scope.md R12). -/

namespace Sys2Proof

/-- The number of bits of an XLEN-bit value. -/
def Xlen.bits : Xlen → Nat
  | .rv32 => 32
  | .rv64 => 64

/-- `ones_XLEN` (00_scope.md R10). -/
def Xlen.ones : Xlen → Word
  | .rv32 => 0x00000000FFFFFFFF
  | .rv64 => 0xFFFFFFFFFFFFFFFF

/-- Bits XLEN-1:0 of a value, zero-extended: how a value takes the register width (30_encoding.md R126). -/
def Xlen.trunc (x : Xlen) (v : Word) : Word := v &&& x.ones

/-- The top bit of an XLEN-bit value, set: the Interrupt bit of xcause (10_state.md R49) and SD (R37). -/
def Xlen.topBit : Xlen → Word
  | .rv32 => 0x0000000080000000
  | .rv64 => 0x8000000000000000

/-- Bits 31:0 of a value, the half a counter access moves when XLEN=32 (41_machine_csrs.md section 11). -/
def lowHalf (v : Word) : Word := v &&& 0x00000000FFFFFFFF

/-- Bits 63:32 of a value, moved down. -/
def highHalf (v : Word) : Word := v >>> 32

/-- `hi[31:0] @ lo[31:0]` (00_scope.md R10). -/
def joinHalves (hi lo : Word) : Word := (hi <<< 32) ||| lowHalf lo

/-- The write data of a CSR access (30_encoding.md R126). -/
def Machine.Inputs.data (p : Machine.Inputs) (x : Xlen) : Word := x.trunc p.wdata

/-- The write mask of a raw access (30_encoding.md R126). -/
def Machine.Inputs.mask (p : Machine.Inputs) (x : Xlen) : Word := x.trunc p.wmask

/-- The Privilege code (00_scope.md R12). -/
def Privilege.code : Privilege → Word
  | .user => 0b00
  | .supervisor => 0b01
  | .machine => 0b11

/-- The privilege a 2-bit code names; 0b10 names none (43_resolvers.md R340). -/
def Privilege.ofCode (b : Word) : Option Privilege :=
  if b = 0b00 then some .user
  else if b = 0b01 then some .supervisor
  else if b = 0b11 then some .machine
  else none

/-- The Architecture code (00_scope.md R12). -/
def Architecture.code : Architecture → Word
  | .rv32 => 0b01
  | .rv64 => 0b10
  | .rv128 => 0b11

/-- The width a 2-bit Architecture code names; 0b00 names none (43_resolvers.md R342). -/
def Architecture.ofCode (a : Word) : Option Architecture :=
  if a = 0b01 then some .rv32
  else if a = 0b10 then some .rv64
  else if a = 0b11 then some .rv128
  else none

/-- The Architecture of an XLEN-bit machine (10_state.md R35, R40). -/
def Xlen.arch : Xlen → Architecture
  | .rv32 => .rv32
  | .rv64 => .rv64

/-- The ExtStatus code of FS and XS (00_scope.md R12). -/
def ExtStatus.code : ExtStatus → Word
  | .off => 0b00
  | .initial => 0b01
  | .clean => 0b10
  | .dirty => 0b11

/-- A truth value as result data (43_resolvers.md R351, 45_host_ports.md R420). -/
def flagWord (b : Bool) : Word := if b then 1 else 0

end Sys2Proof
end

