-- ==== Sys2Proof/Machine/Flags.lean ====
section
/-! DEFINITION. The bitfield codec (40_codec_capabilities.md R200 to R203), the field layouts of 10_state.md, the derived
bit SD (R39), and the extension predicates (R211). -/

namespace Sys2Proof.Machine

/-- A field of a register layout, bits `hi` down to `lo` (40_codec_capabilities.md R200). -/
structure Field where
  hi : Nat
  lo : Nat
  deriving DecidableEq, Repr

/-- A one-bit field. -/
def Field.bit (n : Nat) : Field := ⟨n, n⟩

/-- The number of bits of a field. -/
def Field.width (F : Field) : Nat := F.hi - F.lo + 1

/-- `w` one bits at the bottom of a word. -/
def lowOnes (w : Nat) : Word := (1 <<< w) - 1

/-- `M_F` (40_codec_capabilities.md R200). -/
def Field.mask (F : Field) : Word := lowOnes F.width <<< F.lo

/-- `get_field` (40_codec_capabilities.md R200). -/
def getField (word : Word) (F : Field) : Word := (word >>> F.lo) &&& lowOnes F.width

/-- `set_field`: only the field's bits change, and only as many bits of `v` as it has are used
(40_codec_capabilities.md R201). -/
def setField (word : Word) (F : Field) (v : Word) : Word := (word &&& ~~~F.mask) ||| ((v <<< F.lo) &&& F.mask)

/-- `v[n]` (00_scope.md R9). -/
def bitOf (v : Word) (n : Nat) : Bool := v.getLsbD n

namespace Mstatus

/-- 10_state.md R37. -/
def uie : Field := .bit 0
def sie : Field := .bit 1
def mie : Field := .bit 3
def upie : Field := .bit 4
def spie : Field := .bit 5
def mpie : Field := .bit 7
def spp : Field := .bit 8
def mpp : Field := ⟨12, 11⟩
def fs : Field := ⟨14, 13⟩
def xs : Field := ⟨16, 15⟩
def mprv : Field := .bit 17
def sum : Field := .bit 18
def mxr : Field := .bit 19
def tvm : Field := .bit 20
def tw : Field := .bit 21
def tsr : Field := .bit 22
/-- Present when XLEN=64 only. -/
def uxl : Field := ⟨33, 32⟩
/-- Present when XLEN=64 only. -/
def sxl : Field := ⟨35, 34⟩
/-- Bit XLEN-1. -/
def sd (x : Xlen) : Field := .bit (x.bits - 1)

/-- The fields of mstatus at one XLEN (10_state.md R37). -/
def layout (x : Xlen) : List Field :=
  [uie, sie, mie, upie, spie, mpie, spp, mpp, fs, xs, mprv, sum, mxr, tvm, tw, tsr] ++
  (match x with
    | .rv32 => []
    | .rv64 => [uxl, sxl]) ++ [sd x]

end Mstatus

namespace Misa

/-- MXL, the top two bits (10_state.md R34). -/
def mxl (x : Xlen) : Field := ⟨x.bits - 1, x.bits - 2⟩
/-- The extension letters (10_state.md R34). -/
def letters : Field := ⟨25, 0⟩
def a : Nat := 0
def c : Nat := 2
def d : Nat := 3
def f : Nat := 5
def m : Nat := 12
def n : Nat := 13
def s : Nat := 18
def u : Nat := 20

/-- The fields of misa (10_state.md R34). -/
def layout (x : Xlen) : List Field := [letters, mxl x]

end Misa

/-- The fields of mip, mie and mideleg (10_state.md R42). -/
def minterruptsLayout : List Field := [0, 1, 3, 4, 5, 7, 8, 9, 11].map Field.bit

/-- The fields of medeleg (10_state.md R46). -/
def medelegLayout : List Field := [0, 1, 2, 3, 4, 5, 6, 7, 8, 9, 11, 12, 13, 15].map Field.bit

/-- MODE and BASE of xtvec (10_state.md R48). -/
def tvecLayout (x : Xlen) : List Field := [⟨1, 0⟩, ⟨x.bits - 1, 2⟩]

/-- Interrupt and Code of xcause (10_state.md R49). -/
def causeLayout (x : Xlen) : List Field := [.bit (x.bits - 1), ⟨x.bits - 2, 0⟩]

/-- CY, TM and IR of the counter-enable registers (10_state.md R52). -/
def counterenLayout : List Field := [.bit 0, .bit 1, .bit 2]

/-- CY and IR of mcountinhibit (10_state.md R53). -/
def countinhibitLayout : List Field := [.bit 0, .bit 2]

/-- MODE, ASID and PPN of satp (10_state.md R54). -/
def satpLayout : Xlen → List Field
  | .rv32 => [.bit 31, ⟨30, 22⟩, ⟨21, 0⟩]
  | .rv64 => [⟨63, 60⟩, ⟨59, 44⟩, ⟨43, 0⟩]

/-- The fields sstatus shows (42_views.md R301). -/
def sstatusLayout (x : Xlen) : List Field :=
  [Mstatus.uie, Mstatus.sie, Mstatus.upie, Mstatus.spie, Mstatus.spp, Mstatus.fs, Mstatus.xs, Mstatus.sum, Mstatus.mxr] ++
  (match x with
    | .rv32 => []
    | .rv64 => [Mstatus.uxl]) ++ [Mstatus.sd x]

/-- The fields of sip, sie and sideleg (42_views.md R303, R305, R307). -/
def sinterruptsLayout : List Field := [0, 1, 4, 5, 8, 9].map Field.bit

/-- The fields of sedeleg (42_views.md R309). -/
def sedelegLayout : List Field := [0, 1, 2, 3, 4, 5, 6, 7, 8].map Field.bit

/-- Every layout of 10_state.md and 42_views.md at one XLEN, with its width: the tables R203 speaks of. -/
def layouts (x : Xlen) : List (Nat × List Field) :=
  [(x.bits, Mstatus.layout x), (x.bits, Misa.layout x), (x.bits, minterruptsLayout), (x.bits, medelegLayout),
   (x.bits, tvecLayout x), (x.bits, causeLayout x), (32, counterenLayout), (32, countinhibitLayout),
   (x.bits, satpLayout x), (x.bits, sstatusLayout x), (x.bits, sinterruptsLayout), (x.bits, sedelegLayout)]

/-- The bits the fields of a layout cover. -/
def layoutMask (L : List Field) : Word := L.foldl (fun m F => m ||| F.mask) 0

/-- Two fields share no bit. -/
def Field.disjoint (F G : Field) : Bool := decide (F.hi < G.lo) || decide (G.hi < F.lo)

/-- Every field lies inside a word of `w` bits, and no two overlap. -/
def fieldsOk (w : Nat) : List Field → Bool
  | [] => true
  | F :: rest => decide (F.lo ≤ F.hi) && decide (F.hi < w) && rest.all F.disjoint && fieldsOk w rest

/-- A layout is well-formed at its width (40_codec_capabilities.md R203). -/
def layoutOk (L : Nat × List Field) : Bool := fieldsOk L.1 L.2

/-- The mask of the defined mstatus fields, `MSTATUS_DEF` (10_state.md R37). -/
def mstatusDef : Xlen → Word
  | .rv32 => 0x00000000807FF9BB
  | .rv64 => 0x8000000F007FF9BB

/-- The defined bits of mip and mie, `MINT_DEF` (10_state.md R42). -/
def mintDef : Word := 0xBBB

/-- The supervisor and user bits of the interrupt registers, all mideleg can hold (10_state.md R42, R45). -/
def midelegMask : Word := 0x333

/-- The writable bits of medeleg, `MEDELEG_W` (10_state.md R46). -/
def medelegMask : Word := 0xB3FF

/-- The bits of mcounteren and scounteren (10_state.md R52). -/
def counterenMask : BitVec 32 := 0x7

/-- The bits of mcountinhibit (10_state.md R53). -/
def countinhibitMask : BitVec 32 := 0x5

/-- Some extension context is dirty: FS or XS is Dirty (10_state.md R39). -/
def isDirty (m : Word) : Bool :=
  decide (getField m Mstatus.fs = ExtStatus.dirty.code) || decide (getField m Mstatus.xs = ExtStatus.dirty.code)

/-- mstatus with SD recomputed from FS and XS (10_state.md R39). -/
def withSd (x : Xlen) (m : Word) : Word := setField m (Mstatus.sd x) (flagWord (isDirty m))

/-- `get_SXL` (10_state.md R40). -/
def getSxl (x : Xlen) (m : Word) : Word :=
  match x with
  | .rv32 => 0b01
  | .rv64 => getField m Mstatus.sxl

/-- `get_UXL` (10_state.md R40). -/
def getUxl (x : Xlen) (m : Word) : Word :=
  match x with
  | .rv32 => 0b01
  | .rv64 => getField m Mstatus.uxl

/-- The floating-point context is on (40_codec_capabilities.md R211). -/
def fsOn (s : State) : Bool := decide (getField s.mstatus Mstatus.fs ≠ ExtStatus.off.code)

/-- The predicates of 40_codec_capabilities.md R211, read from the misa and mstatus of now. -/
def haveA (s : State) : Bool := bitOf s.misa Misa.a
def haveC (s : State) : Bool := bitOf s.misa Misa.c
def haveM (s : State) : Bool := bitOf s.misa Misa.m
def haveS (s : State) : Bool := bitOf s.misa Misa.s
def haveU (s : State) : Bool := bitOf s.misa Misa.u
def haveN (s : State) : Bool := bitOf s.misa Misa.n
def haveF (s : State) : Bool := bitOf s.misa Misa.f && fsOn s
def haveD (s : State) : Bool := bitOf s.misa Misa.d && fsOn s

/-- User-level interrupts exist: the gate of the user positions (40_codec_capabilities.md R212). -/
def haveUserInterrupts (s : State) : Bool := haveU s && haveN s

end Sys2Proof.Machine
end

