-- ==== Sys2Proof/Machine/Ops.lean ====
section
/-! DEFINITION. The named operations: answering a command (R500 to R502), the resolvers' functions (R340 to R348), taking
a trap and returning from one (R430 to R435), and the host's registers and its use of the trap sequences (R445 to R451,
R512). An operation of the block is a function from State to State that leaves its response in `out`. -/

namespace Sys2Proof.Machine

/-- `Ok`, with or without a result (60_exceptions.md R500). -/
def State.respond (s : State) (d : Option Word) : State := { s with out := .ok d }

/-- `Rejected(r)`: nothing changes but the response (60_exceptions.md R501). -/
def State.reject (s : State) (r : RejectReason) : State := { s with out := .rejected r }

/-- `Fault(r)`: the block halts and nothing else changes (60_exceptions.md R502). -/
def State.fail (s : State) (r : FaultReason) : State := { s with faulted := true, out := .fault r }

/-- A command: a block that has faulted answers `Fault(Halted)` and does nothing (60_exceptions.md R502, R503). -/
def State.command (s : State) (f : State → State) : State :=
  if s.faulted then { s with out := .fault .halted } else f s

/-- The refusal of a reserved command word (30_encoding.md R127). -/
def rejectReserved (s : State) : State := s.command fun s => s.reject .reservedEncoding

/-- The 2-bit `status` output (30_encoding.md R121). -/
def Response.status : Response → BitVec 2
  | .ok _ => 0b00
  | .rejected _ => 0b01
  | .fault _ => 0b10

/-- The 4-bit `reason` output (30_encoding.md R121, R128). -/
def Response.reason : Response → BitVec 4
  | .ok _ => 0x0
  | .rejected .reservedEncoding => 0x1
  | .rejected .noSuchCsr => 0x2
  | .rejected .readOnly => 0x3
  | .rejected .notStorage => 0x4
  | .rejected .privilege => 0x5
  | .rejected .badValue => 0x6
  | .fault .invalidArch => 0x8
  | .fault .invalidPrivilege => 0x9
  | .fault .noTrapTarget => 0xA
  | .fault .halted => 0xB

/-- The `rvalid` output (30_encoding.md R121). -/
def Response.rvalid : Response → Bool
  | .ok (some _) => true
  | _ => false

/-- The `rdata` output (30_encoding.md R121). R121 gives 0 for an Ok without a result and says nothing of a Rejected or a
Fault: 0 there too is a DESIGN CHOICE (log 25). -/
def Response.rdata : Response → Word
  | .ok (some d) => d
  | _ => 0

/-- `pc_alignment_mask()` (43_resolvers.md R348). -/
def pcAlignmentMask (s : State) : Word :=
  s.params.xlen.trunc (if haveC s then ~~~0b01 else ~~~0b11)

/-- `tvec_addr(tvec, cause)` (43_resolvers.md R345). -/
def tvecAddr (x : Xlen) (tvec cause : Word) : Option Word :=
  let base := tvec &&& ~~~0b11
  if tvec &&& 0b11 = 0b00 then some base
  else if tvec &&& 0b11 = 0b01 then
    if cause &&& x.topBit = 0 then some base
    else some (x.trunc (base + (getField cause ⟨x.bits - 2, 0⟩ <<< 2)))
  else none

/-- The privilege mstatus.MPP names (43_resolvers.md R340). -/
def mppPrivilege (s : State) : Option Privilege := Privilege.ofCode (getField s.mstatus Mstatus.mpp)

/-- `effective_privilege`: none where it meets MPP = 0b10 (43_resolvers.md R341). -/
def effectivePrivilege (k : AccessKind) (s : State) : Option Privilege :=
  if k ≠ .execute ∧ getField s.mstatus Mstatus.mprv = 1 then mppPrivilege s else some s.curPrivilege

/-- The Architecture code that governs the current privilege (43_resolvers.md R343). -/
def architectureCode (s : State) : Word :=
  match s.curPrivilege with
  | .machine => getField s.misa (Misa.mxl s.params.xlen)
  | .supervisor => getSxl s.params.xlen s.mstatus
  | .user => getUxl s.params.xlen s.mstatus

/-- `current_architecture()`: none where the code names no width (43_resolvers.md R342, R343). -/
def currentArchitecture (s : State) : Option Architecture := Architecture.ofCode (architectureCode s)

/-- Exception cause codes (60_exceptions.md R510). -/
inductive ExceptionCause where
  | instrAddrMisaligned
  | instrAccessFault
  | illegalInstr
  | breakpoint
  | loadAddrMisaligned
  | loadAccessFault
  | storeAmoAddrMisaligned
  | storeAmoAccessFault
  | envCallU
  | envCallS
  | envCallM
  | instrPageFault
  | loadPageFault
  | storeAmoPageFault
  deriving DecidableEq, Repr

/-- The code of an exception, which is also its medeleg bit (60_exceptions.md R510). -/
def ExceptionCause.code : ExceptionCause → Word
  | .instrAddrMisaligned => 0
  | .instrAccessFault => 1
  | .illegalInstr => 2
  | .breakpoint => 3
  | .loadAddrMisaligned => 4
  | .loadAccessFault => 5
  | .storeAmoAddrMisaligned => 6
  | .storeAmoAccessFault => 7
  | .envCallU => 8
  | .envCallS => 9
  | .envCallM => 11
  | .instrPageFault => 12
  | .loadPageFault => 13
  | .storeAmoPageFault => 15

/-- The environment call of a privilege level (45_host_ports.md R451). -/
def envCall : Privilege → ExceptionCause
  | .user => .envCallU
  | .supervisor => .envCallS
  | .machine => .envCallM

/-- An xcause value: the Interrupt bit over the code (45_host_ports.md R430). -/
def causeValue (x : Xlen) (interrupt : Bool) (code : Word) : Word :=
  if interrupt then code ||| x.topBit else code

/-- The trap goes to Supervisor level (45_host_ports.md R430, 60_exceptions.md R532). -/
def trapToSupervisor (interrupt : Bool) (code : Word) (s : State) : Bool :=
  let deleg := if interrupt then s.mideleg else s.medeleg
  decide (s.curPrivilege ≠ .machine) && decide (code.toNat < s.params.xlen.bits) && bitOf deleg code.toNat

/-- mstatus after a trap into Machine level from level `p` (45_host_ports.md R431). -/
def machineTrapStatus (x : Xlen) (p : Privilege) (m : Word) : Word :=
  let m₁ := setField m Mstatus.mpie (getField m Mstatus.mie)
  let m₂ := setField m₁ Mstatus.mie 0
  withSd x (setField m₂ Mstatus.mpp p.code)

/-- mstatus after a trap into Supervisor level from level `p` (45_host_ports.md R432). -/
def supervisorTrapStatus (x : Xlen) (p : Privilege) (m : Word) : Word :=
  let m₁ := setField m Mstatus.spie (getField m Mstatus.sie)
  let m₂ := setField m₁ Mstatus.sie 0
  withSd x (setField m₂ Mstatus.spp (if p = .user then 0 else 1))

/-- The commit of a trap taken into Machine level (45_host_ports.md R431). -/
def enterMachine (cause tval epc : Word) (s : State) : State :=
  { s with
    mcause := cause
    mtval := tval
    mepc := epc
    mstatus := machineTrapStatus s.params.xlen s.curPrivilege s.mstatus
    curPrivilege := .machine }

/-- The commit of a trap delegated to Supervisor level (45_host_ports.md R432). -/
def enterSupervisor (cause tval epc : Word) (s : State) : State :=
  { s with
    scause := cause
    stval := tval
    sepc := epc
    mstatus := supervisorTrapStatus s.params.xlen s.curPrivilege s.mstatus
    curPrivilege := .supervisor }

/-- TRAP_ENTER (45_host_ports.md R430 to R433). `code`, `tval` and `epc` have the register width. -/
def trapEnter (interrupt : Bool) (code tval epc : Word) (s : State) : State :=
  s.command fun s =>
    let x := s.params.xlen
    if 2 ^ (x.bits - 1) ≤ code.toNat then s.reject .badValue
    else
      let cause := causeValue x interrupt code
      let toS := trapToSupervisor interrupt code s
      match tvecAddr x (if toS then s.stvec else s.mtvec) cause with
      | none => s.fail .noTrapTarget
      | some target =>
        (if toS then enterSupervisor cause tval epc s else enterMachine cause tval epc s).respond (some target)

/-- mstatus after MRET (45_host_ports.md R434). -/
def mretStatus (x : Xlen) (userExists : Bool) (m : Word) : Word :=
  let m₁ := setField m Mstatus.mie (getField m Mstatus.mpie)
  let m₂ := setField m₁ Mstatus.mpie 1
  withSd x (setField m₂ Mstatus.mpp (if userExists then Privilege.user.code else Privilege.machine.code))

/-- mstatus after SRET (45_host_ports.md R435). -/
def sretStatus (x : Xlen) (m : Word) : Word :=
  let m₁ := setField m Mstatus.sie (getField m Mstatus.spie)
  let m₂ := setField m₁ Mstatus.spie 1
  withSd x (setField m₂ Mstatus.spp 0)

/-- XRET MRET (45_host_ports.md R434). -/
def machineReturn (s : State) : State :=
  s.command fun s =>
    if s.curPrivilege ≠ .machine then s.reject .privilege
    else
      match mppPrivilege s with
      | none => s.fail .invalidPrivilege
      | some p =>
        { s with mstatus := mretStatus s.params.xlen (haveU s) s.mstatus, curPrivilege := p }.respond
          (some (s.mepc &&& pcAlignmentMask s))

/-- SRET is refused: from User level, and from Supervisor level while TSR = 1 (45_host_ports.md R435). -/
def sretRefused (s : State) : Bool :=
  decide (s.curPrivilege = .user) ||
    (decide (s.curPrivilege = .supervisor) && decide (getField s.mstatus Mstatus.tsr = 1))

/-- XRET SRET (45_host_ports.md R435). -/
def supervisorReturn (s : State) : State :=
  s.command fun s =>
    if sretRefused s then s.reject .privilege
    else
      let p := if getField s.mstatus Mstatus.spp = 1 then Privilege.supervisor else Privilege.user
      { s with mstatus := sretStatus s.params.xlen s.mstatus, curPrivilege := p }.respond
        (some (s.sepc &&& pcAlignmentMask s))

/-- RETIRE (44_counters.md R371). -/
def retireInstruction (s : State) : State :=
  s.command fun s =>
    (if s.minstretWritten then { s with minstretWritten := false }
      else { s with minstret := s.minstret + 1 }).respond none

/-- A general register of the host; x0 reads 0 (45_host_ports.md R445, log 7). -/
def readX (s : State) (r : BitVec 5) : Word := if r = 0 then 0 else s.x.get r.toFin

/-- A write of a general register of the host; x0 discards it (log 7). -/
def State.writeX (s : State) (r : BitVec 5) (v : Word) : State :=
  if r = 0 then s else { s with x := s.x.set r.toNat v r.isLt }

/-- The host sets its pc (45_host_ports.md R436). -/
def State.setPc (s : State) (a : Word) : State := { s with pc := a }

/-- The address of the instruction after a 4-byte one, the `next_pc` the host presents (70_reset_and_hazards.md R612). -/
def nextInstr (s : State) : Word := s.params.xlen.trunc (s.pc + 4)

/-- The host takes a trap at its pc: TRAP_ENTER with epc = pc, then pc is the address it returns. Where the block gives no
address the run ends there (45_host_ports.md R436, 70_reset_and_hazards.md R630, log 11). -/
def hostTrap (interrupt : Bool) (code tval : Word) (s : State) : State :=
  let t := trapEnter interrupt code tval s.pc s
  match t.out with
  | .ok (some target) => t.setPc target
  | _ => t

/-- The host raises IllegalInstr for the instruction word at its pc (60_exceptions.md R510, R512, log 9). -/
def raiseIllegal (word : BitVec 32) (s : State) : State :=
  hostTrap false ExceptionCause.illegalInstr.code (if s.params.illegalTvalBits then word.setWidth 64 else 0) s

/-- The end of an instruction that completes: its one RETIRE, then the pc (44_counters.md R370, 45_host_ports.md R451). -/
def finishAt (target : Word) (s : State) : State := (retireInstruction s).setPc target

/-- What the host does with the response to one command of the instruction `word`: it goes on with the result of an Ok,
raises IllegalInstr on a Rejected, and ends on a Fault (45_host_ports.md R445 to R451, log 11). -/
def onResponse (word : BitVec 32) (s : State) (k : Word → State → State) : State :=
  match s.out with
  | .ok d => k (d.getD 0) s
  | .rejected _ => raiseIllegal word s
  | .fault _ => s

end Sys2Proof.Machine
end

