-- ==== Sys2Proof/Machine/Legalizers.lean ====
section
/-! DEFINITION. The Legalization Engine and the storage registers: what a CSR read of each register returns and what a CSR
write of it commits (41_machine_csrs.md R232 to R289). A write function runs on a block that has not faulted; it leaves its
response in `out`. -/

namespace Sys2Proof.Machine

/-- `legalize_misa` (41_machine_csrs.md R233, 90_conflicts.md C1). -/
def legalizeMisa (caps : Caps) (nextPc old v : Word) : Word :=
  if caps.writableMisa then
    let aligned := decide (nextPc &&& 0b11 = 0)
    let mayWriteC := caps.rvcBoot && (bitOf v Misa.c || (aligned && !caps.vetoDisableC))
    let m := if mayWriteC then setField old (.bit Misa.c) (getField v (.bit Misa.c)) else old
    let mayWriteFD := caps.fdextBoot && !(bitOf v Misa.d && !bitOf v Misa.f)
    if mayWriteFD then
      setField (setField m (.bit Misa.f) (getField v (.bit Misa.f))) (.bit Misa.d) (getField v (.bit Misa.d))
    else m
  else old

/-- `legalize_mstatus` (41_machine_csrs.md R235). -/
def legalizeMstatus (x : Xlen) (hasN hasU : Bool) (old v : Word) : Word :=
  let m := setField (v &&& mstatusDef x) Mstatus.xs ExtStatus.off.code
  let m := match x with
    | .rv32 => m
    | .rv64 => setField (setField m Mstatus.sxl (getField old Mstatus.sxl)) Mstatus.uxl (getField old Mstatus.uxl)
  let m := if hasN then m else setField (setField m Mstatus.upie 0) Mstatus.uie 0
  let m := if hasU then m else setField m Mstatus.mprv 0
  withSd x m

/-- The bits `wm` of `v` over the other bits of `old`: the masked update every interrupt legalizer and lift uses. -/
def mergeBits (wm old v : Word) : Word := (old &&& ~~~wm) ||| (v &&& wm)

/-- The bits a CSR write of mip reaches (41_machine_csrs.md R237). -/
def mipWritable (userInts : Bool) : Word := if userInts then 0x222 ||| 0x111 else 0x222

/-- The bits a CSR write of mie reaches (41_machine_csrs.md R239). -/
def mieWritable (userInts : Bool) : Word := if userInts then 0xAAA ||| 0x111 else 0xAAA

/-- `legalize_mip` (41_machine_csrs.md R237). -/
def legalizeMip (userInts : Bool) (old v : Word) : Word := mergeBits (mipWritable userInts) old v

/-- `legalize_mie` (41_machine_csrs.md R239). -/
def legalizeMie (userInts : Bool) (old v : Word) : Word := mergeBits (mieWritable userInts) old v

/-- `legalize_mideleg` (41_machine_csrs.md R241). -/
def legalizeMideleg (v : Word) : Word := v &&& midelegMask

/-- `legalize_medeleg` (41_machine_csrs.md R243). -/
def legalizeMedeleg (v : Word) : Word := v &&& medelegMask

/-- `legalize_tvec`: a reserved mode keeps the old mode (41_machine_csrs.md R245). -/
def legalizeTvec (old v : Word) : Word :=
  if v &&& 0b11 = 0b00 ∨ v &&& 0b11 = 0b01 then v else mergeBits 0b11 v old

/-- `legalize_counteren` (41_machine_csrs.md R247). -/
def legalizeCounteren (v : Word) : BitVec 32 := v.setWidth 32 &&& counterenMask

/-- `legalize_countinhibit` (41_machine_csrs.md R249). -/
def legalizeCountinhibit (v : Word) : BitVec 32 := v.setWidth 32 &&& countinhibitMask

/-- `legalize_xepc` (41_machine_csrs.md R253). -/
def legalizeXepc (hasC : Bool) (caps : Caps) (v : Word) : Word :=
  if hasC || (caps.writableMisa && caps.rvcBoot) then v &&& ~~~0b01 else v &&& ~~~0b11

/-- `legalize_satp64` (41_machine_csrs.md R289). -/
def legalizeSatp64 (arch : Architecture) (haveSv48 : Bool) (old v : Word) : Word :=
  let mode := getField v ⟨63, 60⟩
  let bare := decide (mode = 0)
  let sv39 := decide (mode = 8) && decide (arch = .rv64)
  let sv48 := decide (mode = 9) && decide (arch = .rv64) && haveSv48
  if bare || sv39 || sv48 then v else old

/-- A counter as one CSR of XLEN bits shows it (41_machine_csrs.md R268, R270). -/
def counterLow (x : Xlen) (c : Word) : Word :=
  match x with
  | .rv32 => lowHalf c
  | .rv64 => c

/-- A counter after a write through its base CSR (41_machine_csrs.md R269, R271). -/
def writeCounterLow (x : Xlen) (old v : Word) : Word :=
  match x with
  | .rv32 => joinHalves (highHalf old) v
  | .rv64 => v

/-- A counter after a write of its upper half (41_machine_csrs.md R273, R275). -/
def writeCounterHigh (old v : Word) : Word := joinHalves v old

def readMisa (s : State) : Word := s.misa
def readMstatus (s : State) : Word := s.mstatus
def readMip (s : State) : Word := s.mip
def readMie (s : State) : Word := s.mie
def readMideleg (s : State) : Word := s.mideleg
def readMedeleg (s : State) : Word := s.medeleg
def readMtvec (s : State) : Word := s.mtvec
def readMcounteren (s : State) : Word := s.mcounteren.setWidth 64
def readMcountinhibit (s : State) : Word := s.mcountinhibit.setWidth 64
def readMscratch (s : State) : Word := s.mscratch
/-- The read mask is that of the misa.C of now (41_machine_csrs.md R252). -/
def readMepc (s : State) : Word := s.mepc &&& pcAlignmentMask s
def readMcause (s : State) : Word := s.mcause
def readMtval (s : State) : Word := s.mtval
def readMvendorid (s : State) : Word := s.params.mvendorid
def readMarchid (s : State) : Word := s.params.marchid
def readMimpid (s : State) : Word := s.params.mimpid
def readMhartid (s : State) : Word := s.params.mhartid
def readTselect (s : State) : Word := s.tselect
def readMcycle (s : State) : Word := counterLow s.params.xlen s.mcycle
def readMinstret (s : State) : Word := counterLow s.params.xlen s.minstret
def readMcycleh (s : State) : Word := highHalf s.mcycle
def readMinstreth (s : State) : Word := highHalf s.minstret
def readStvec (s : State) : Word := s.stvec
def readScounteren (s : State) : Word := s.scounteren.setWidth 64
def readSscratch (s : State) : Word := s.sscratch
/-- As mepc (41_machine_csrs.md R282). -/
def readSepc (s : State) : Word := s.sepc &&& pcAlignmentMask s
def readScause (s : State) : Word := s.scause
def readStval (s : State) : Word := s.stval
def readSatp (s : State) : Word := s.satp

/-- 41_machine_csrs.md R233. -/
def writeMisa (p : Inputs) (s : State) : State :=
  { s with misa := legalizeMisa p.caps p.nextPc s.misa (p.data s.params.xlen) }.respond none

/-- 41_machine_csrs.md R235. -/
def writeMstatus (p : Inputs) (s : State) : State :=
  { s with mstatus := legalizeMstatus s.params.xlen (haveN s) (haveU s) s.mstatus (p.data s.params.xlen) }.respond none

/-- 41_machine_csrs.md R237. -/
def writeMip (p : Inputs) (s : State) : State :=
  { s with mip := legalizeMip (haveUserInterrupts s) s.mip (p.data s.params.xlen) }.respond none

/-- 41_machine_csrs.md R239. -/
def writeMie (p : Inputs) (s : State) : State :=
  { s with mie := legalizeMie (haveUserInterrupts s) s.mie (p.data s.params.xlen) }.respond none

/-- 41_machine_csrs.md R241. -/
def writeMideleg (p : Inputs) (s : State) : State :=
  { s with mideleg := legalizeMideleg (p.data s.params.xlen) }.respond none

/-- 41_machine_csrs.md R243. -/
def writeMedeleg (p : Inputs) (s : State) : State :=
  { s with medeleg := legalizeMedeleg (p.data s.params.xlen) }.respond none

/-- 41_machine_csrs.md R245. -/
def writeMtvec (p : Inputs) (s : State) : State :=
  { s with mtvec := legalizeTvec s.mtvec (p.data s.params.xlen) }.respond none

/-- 41_machine_csrs.md R247. -/
def writeMcounteren (p : Inputs) (s : State) : State :=
  { s with mcounteren := legalizeCounteren (p.data s.params.xlen) }.respond none

/-- 41_machine_csrs.md R249. -/
def writeMcountinhibit (p : Inputs) (s : State) : State :=
  { s with mcountinhibit := legalizeCountinhibit (p.data s.params.xlen) }.respond none

/-- 41_machine_csrs.md R251. -/
def writeMscratch (p : Inputs) (s : State) : State := { s with mscratch := p.data s.params.xlen }.respond none

/-- 41_machine_csrs.md R253. -/
def writeMepc (p : Inputs) (s : State) : State :=
  { s with mepc := legalizeXepc (haveC s) p.caps (p.data s.params.xlen) }.respond none

/-- 41_machine_csrs.md R255. -/
def writeMcause (p : Inputs) (s : State) : State := { s with mcause := p.data s.params.xlen }.respond none

/-- 41_machine_csrs.md R257. -/
def writeMtval (p : Inputs) (s : State) : State := { s with mtval := p.data s.params.xlen }.respond none

/-- 41_machine_csrs.md R259. -/
def writeMvendorid (s : State) : State := s.reject .readOnly

/-- 41_machine_csrs.md R261. -/
def writeMarchid (s : State) : State := s.reject .readOnly

/-- 41_machine_csrs.md R263. -/
def writeMimpid (s : State) : State := s.reject .readOnly

/-- 41_machine_csrs.md R265. -/
def writeMhartid (s : State) : State := s.reject .readOnly

/-- 41_machine_csrs.md R267. -/
def writeTselect (p : Inputs) (s : State) : State := { s with tselect := p.data s.params.xlen }.respond none

/-- 41_machine_csrs.md R269. -/
def writeMcycle (p : Inputs) (s : State) : State :=
  { s with mcycle := writeCounterLow s.params.xlen s.mcycle (p.data s.params.xlen) }.respond none

/-- 41_machine_csrs.md R271: an explicit write of minstret sets the flag. -/
def writeMinstret (p : Inputs) (s : State) : State :=
  { s with
    minstret := writeCounterLow s.params.xlen s.minstret (p.data s.params.xlen)
    minstretWritten := true }.respond none

/-- 41_machine_csrs.md R273. -/
def writeMcycleh (p : Inputs) (s : State) : State :=
  { s with mcycle := writeCounterHigh s.mcycle (p.data s.params.xlen) }.respond none

/-- 41_machine_csrs.md R275: so does a write of its upper half. -/
def writeMinstreth (p : Inputs) (s : State) : State :=
  { s with
    minstret := writeCounterHigh s.minstret (p.data s.params.xlen)
    minstretWritten := true }.respond none

/-- 41_machine_csrs.md R277. -/
def writeStvec (p : Inputs) (s : State) : State :=
  { s with stvec := legalizeTvec s.stvec (p.data s.params.xlen) }.respond none

/-- 41_machine_csrs.md R279. -/
def writeScounteren (p : Inputs) (s : State) : State :=
  { s with scounteren := legalizeCounteren (p.data s.params.xlen) }.respond none

/-- 41_machine_csrs.md R281. -/
def writeSscratch (p : Inputs) (s : State) : State := { s with sscratch := p.data s.params.xlen }.respond none

/-- 41_machine_csrs.md R283. -/
def writeSepc (p : Inputs) (s : State) : State :=
  { s with sepc := legalizeXepc (haveC s) p.caps (p.data s.params.xlen) }.respond none

/-- 41_machine_csrs.md R285. -/
def writeScause (p : Inputs) (s : State) : State := { s with scause := p.data s.params.xlen }.respond none

/-- 41_machine_csrs.md R287. -/
def writeStval (p : Inputs) (s : State) : State := { s with stval := p.data s.params.xlen }.respond none

/-- 41_machine_csrs.md R289: the 32-bit layout accepts anything; the 64-bit one needs the current architecture. -/
def writeSatp (p : Inputs) (s : State) : State :=
  match s.params.xlen with
  | .rv32 => { s with satp := p.data .rv32 }.respond none
  | .rv64 =>
    match currentArchitecture s with
    | none => s.fail .invalidArch
    | some arch => { s with satp := legalizeSatp64 arch s.params.haveSv48 s.satp (p.data .rv64) }.respond none

end Sys2Proof.Machine
end

