-- ==== Sys2Proof/Machine/Views.lean ====
section
/-! DEFINITION. The View Projection Engine: the lowering and lifting functions of the five views (42_views.md R300 to
R310). A view has no storage; its write commits to the machine-level register. -/

namespace Sys2Proof.Machine

/-- The bits of mstatus a read of sstatus shows, `SSTATUS_R` (42_views.md R301). -/
def sstatusReadMask : Xlen → Word
  | .rv32 => 0x00000000800DE133
  | .rv64 => 0x80000003000DE133

/-- The bits of mstatus a write of sstatus reaches, `SSTATUS_W` (42_views.md R302, 90_conflicts.md C2). -/
def sstatusWriteMask : Word := 0x000DE133

/-- `lower_sstatus` (42_views.md R301). -/
def lowerSstatus (x : Xlen) (mstatus : Word) : Word := mstatus &&& sstatusReadMask x

/-- `lift_sstatus` (42_views.md R302, 90_conflicts.md C6). -/
def liftSstatus (x : Xlen) (mstatus v : Word) : Word := withSd x (mergeBits sstatusWriteMask mstatus v)

/-- `lower_sip` and `lower_sie`: a bit shows where it is delegated (42_views.md R303, R305). -/
def lowerInterrupts (reg mideleg : Word) : Word := reg &&& mideleg &&& 0x333

/-- The bits of mip a write of sip reaches (42_views.md R304). -/
def sipWritable (userInts : Bool) (mideleg : Word) : Word :=
  if userInts then (0x002 &&& mideleg) ||| (0x001 &&& mideleg) else 0x002 &&& mideleg

/-- `lift_sip` (42_views.md R304). -/
def liftSip (userInts : Bool) (mip mideleg v : Word) : Word := mergeBits (sipWritable userInts mideleg) mip v

/-- The bits of mie a write of sie reaches (42_views.md R306). -/
def sieWritable (userInts : Bool) (mideleg : Word) : Word :=
  if userInts then (0x222 &&& mideleg) ||| (0x111 &&& mideleg) else 0x222 &&& mideleg

/-- `lift_sie` (42_views.md R306). -/
def liftSie (userInts : Bool) (mie mideleg v : Word) : Word := mergeBits (sieWritable userInts mideleg) mie v

/-- `lower_sideleg` (42_views.md R307). -/
def lowerSideleg (mideleg : Word) : Word := mideleg &&& 0x333

/-- The positions a write of sideleg can clear (42_views.md R308). -/
def sidelegWritable (userInts : Bool) (mideleg : Word) : Word :=
  (if userInts then 0x222 ||| 0x111 else 0x222) &&& mideleg

/-- `lift_sideleg` (42_views.md R308). -/
def liftSideleg (userInts : Bool) (mideleg v : Word) : Word :=
  mergeBits (sidelegWritable userInts mideleg) mideleg v

/-- `lower_sedeleg` (42_views.md R309). -/
def lowerSedeleg (medeleg : Word) : Word := medeleg &&& 0x1FF

/-- `lift_sedeleg` (42_views.md R310). -/
def liftSedeleg (medeleg v : Word) : Word := mergeBits (0x1FF &&& medeleg) medeleg v

def readSstatus (s : State) : Word := lowerSstatus s.params.xlen s.mstatus
def readSip (s : State) : Word := lowerInterrupts s.mip s.mideleg
def readSie (s : State) : Word := lowerInterrupts s.mie s.mideleg
def readSideleg (s : State) : Word := lowerSideleg s.mideleg
def readSedeleg (s : State) : Word := lowerSedeleg s.medeleg

/-- 42_views.md R302. -/
def writeSstatus (p : Inputs) (s : State) : State :=
  { s with mstatus := liftSstatus s.params.xlen s.mstatus (p.data s.params.xlen) }.respond none

/-- 42_views.md R304. -/
def writeSip (p : Inputs) (s : State) : State :=
  { s with mip := liftSip (haveUserInterrupts s) s.mip s.mideleg (p.data s.params.xlen) }.respond none

/-- 42_views.md R306. -/
def writeSie (p : Inputs) (s : State) : State :=
  { s with mie := liftSie (haveUserInterrupts s) s.mie s.mideleg (p.data s.params.xlen) }.respond none

/-- 42_views.md R308. -/
def writeSideleg (p : Inputs) (s : State) : State :=
  { s with mideleg := liftSideleg (haveUserInterrupts s) s.mideleg (p.data s.params.xlen) }.respond none

/-- 42_views.md R310. -/
def writeSedeleg (p : Inputs) (s : State) : State :=
  { s with medeleg := liftSedeleg s.medeleg (p.data s.params.xlen) }.respond none

end Sys2Proof.Machine
end

