-- ==== Sys2Proof/Machine/CsrAccess.lean ====
section
/-! DEFINITION. The general protocol of CSR_READ and CSR_WRITE (41_machine_csrs.md R230, R231, R290; 42_views.md R300)
and the CSR access check (45_host_ports.md R420). -/

namespace Sys2Proof.Machine

/-- The value a CSR read returns (the read rule of the register, 30_encoding.md R130). -/
def readCsr (c : Csr) (s : State) : Word :=
  match c with
  | .misa => readMisa s
  | .mstatus => readMstatus s
  | .mip => readMip s
  | .mie => readMie s
  | .mideleg => readMideleg s
  | .medeleg => readMedeleg s
  | .mtvec => readMtvec s
  | .mcounteren => readMcounteren s
  | .mcountinhibit => readMcountinhibit s
  | .mscratch => readMscratch s
  | .mepc => readMepc s
  | .mcause => readMcause s
  | .mtval => readMtval s
  | .mvendorid => readMvendorid s
  | .marchid => readMarchid s
  | .mimpid => readMimpid s
  | .mhartid => readMhartid s
  | .tselect => readTselect s
  | .mcycle => readMcycle s
  | .minstret => readMinstret s
  | .mcycleh => readMcycleh s
  | .minstreth => readMinstreth s
  | .stvec => readStvec s
  | .scounteren => readScounteren s
  | .sscratch => readSscratch s
  | .sepc => readSepc s
  | .scause => readScause s
  | .stval => readStval s
  | .satp => readSatp s
  | .sstatus => readSstatus s
  | .sip => readSip s
  | .sie => readSie s
  | .sideleg => readSideleg s
  | .sedeleg => readSedeleg s

/-- The commit of a CSR write (the write rule of the register, 30_encoding.md R130). -/
def writeCsr (c : Csr) (p : Inputs) (s : State) : State :=
  match c with
  | .misa => writeMisa p s
  | .mstatus => writeMstatus p s
  | .mip => writeMip p s
  | .mie => writeMie p s
  | .mideleg => writeMideleg p s
  | .medeleg => writeMedeleg p s
  | .mtvec => writeMtvec p s
  | .mcounteren => writeMcounteren p s
  | .mcountinhibit => writeMcountinhibit p s
  | .mscratch => writeMscratch p s
  | .mepc => writeMepc p s
  | .mcause => writeMcause p s
  | .mtval => writeMtval p s
  | .mvendorid => writeMvendorid s
  | .marchid => writeMarchid s
  | .mimpid => writeMimpid s
  | .mhartid => writeMhartid s
  | .tselect => writeTselect p s
  | .mcycle => writeMcycle p s
  | .minstret => writeMinstret p s
  | .mcycleh => writeMcycleh p s
  | .minstreth => writeMinstreth p s
  | .stvec => writeStvec p s
  | .scounteren => writeScounteren p s
  | .sscratch => writeSscratch p s
  | .sepc => writeSepc p s
  | .scause => writeScause p s
  | .stval => writeStval p s
  | .satp => writeSatp p s
  | .sstatus => writeSstatus p s
  | .sip => writeSip p s
  | .sie => writeSie p s
  | .sideleg => writeSideleg p s
  | .sedeleg => writeSedeleg p s

/-- CSR_READ of a register (41_machine_csrs.md R230). It writes nothing (20_memory.md R103). -/
def csrRead (c : Csr) (s : State) : State :=
  s.command fun s =>
    if c.assignedAt s.params.xlen then s.respond (some (readCsr c s)) else s.reject .noSuchCsr

/-- CSR_WRITE of a register: legalize, then commit (41_machine_csrs.md R231). -/
def csrWrite (c : Csr) (p : Inputs) (s : State) : State :=
  s.command fun s => if c.assignedAt s.params.xlen then writeCsr c p s else s.reject .noSuchCsr

/-- A command on a CSR number R130 assigns to no register (41_machine_csrs.md R290). -/
def noSuchCsr (s : State) : State := s.command fun s => s.reject .noSuchCsr

/-- CSR_READ of a CSR number (41_machine_csrs.md R230, R290). -/
def csrReadAt (addr : BitVec 12) (s : State) : State :=
  match Csr.ofAddr addr with
  | some c => csrRead c s
  | none => noSuchCsr s

/-- CSR_WRITE of a CSR number (41_machine_csrs.md R231, R290). -/
def csrWriteAt (addr : BitVec 12) (p : Inputs) (s : State) : State :=
  match Csr.ofAddr addr with
  | some c => csrWrite c p s
  | none => noSuchCsr s

/-- R130 assigns the number at this XLEN. -/
def assignedAddr (x : Xlen) (addr : BitVec 12) : Bool :=
  match Csr.ofAddr addr with
  | some c => c.assignedAt x
  | none => false

/-- `ADDR[9:8]`, the lowest privilege that may access the number (45_host_ports.md R420). -/
def csrLevel (addr : BitVec 12) : Nat := (addr.extractLsb' 8 2).toNat

/-- The number lies in the read-only range, `ADDR[11:10] = 0b11` (45_host_ports.md R420). -/
def csrReadOnlyRange (addr : BitVec 12) : Bool := decide (addr.extractLsb' 10 2 = 0b11)

/-- The current privilege may access this CSR number, with a write if `w` (45_host_ports.md R420). -/
def accessAllowed (w : Bool) (addr : BitVec 12) (s : State) : Bool :=
  assignedAddr s.params.xlen addr
    && decide (csrLevel addr ≤ s.curPrivilege.code.toNat)
    && !(w && csrReadOnlyRange addr)
    && !(decide (csrLevel addr = 1) && !haveS s)
    && !(decide (addr = Csr.satp.addr) && decide (s.curPrivilege = .supervisor)
          && decide (getField s.mstatus Mstatus.tvm = 1))

/-- ACCESS_CHECK (45_host_ports.md R420). -/
def accessCheck (w : Bool) (addr : BitVec 12) (s : State) : State :=
  s.command fun s => s.respond (some (flagWord (accessAllowed w addr s)))

end Sys2Proof.Machine
end

