-- ==== Sys2Proof/Machine/HostInstrs.lean ====
section
/-! DEFINITION. How the host executes the SYSTEM instructions that reach the block (45_host_ports.md R445 to R451), and
the instructions the block never sees, and the traps the host takes between instructions (60_exceptions.md R510, R520). An
instruction issues the commands its rule lists, in that order; one that completes ends with its RETIRE and moves the pc,
one that traps does not retire (log 8). -/

namespace Sys2Proof.Machine

/-- The inputs of a CSR_WRITE the host issues: the capability inputs of this instruction, `next_pc` = the instruction it
will execute next (70_reset_and_hazards.md R612), and the data (log 8). -/
def hostInputs (v : Word) (s : State) : Inputs := { s.port with wdata := v, nextPc := nextInstr s }

/-- The end of a CSR instruction: CSR_WRITE if `w`, then x[rd], then RETIRE and the next instruction
(45_host_ports.md R445, R446). -/
def csrWriteBack (word : BitVec 32) (rd : BitVec 5) (csr : BitVec 12) (w : Bool) (v t : Word) (s : State) : State :=
  let target := nextInstr s
  if w then
    onResponse word (csrWriteAt csr (hostInputs v s) s) fun _ s => finishAt target (s.writeX rd t)
  else finishAt target (s.writeX rd t)

/-- CSRRW and CSRRWI with the new value `v`: the CSR is read only if rd ≠ 0 (45_host_ports.md R445, R448). -/
def csrSwap (word : BitVec 32) (rd : BitVec 5) (csr : BitVec 12) (v : Word) (s : State) : State :=
  onResponse word (accessCheck true csr s) fun allowed s =>
    if allowed = 0 then raiseIllegal word s
    else if rd = 0 then csrWriteBack word rd csr true v 0 s
    else onResponse word (csrReadAt csr s) fun t s => csrWriteBack word rd csr true v t s

/-- CSRRS, CSRRC and their immediate forms: read, then write `f` of the value read if `w` (45_host_ports.md R446, R447,
R449, R450). -/
def csrModify (word : BitVec 32) (rd : BitVec 5) (csr : BitVec 12) (w : Bool) (f : Word → Word) (s : State) : State :=
  onResponse word (accessCheck w csr s) fun allowed s =>
    if allowed = 0 then raiseIllegal word s
    else onResponse word (csrReadAt csr s) fun t s => csrWriteBack word rd csr w (f t) t s

/-- CSRRW (R445). -/
def execCsrrw (rd : BitVec 5) (csr : BitVec 12) (rs1 : BitVec 5) (s : State) : Host.Outcome State Fault Refusal :=
  .next (csrSwap (encode (.csrrw rd csr rs1)) rd csr (readX s rs1) s)

/-- CSRRS (R446). -/
def execCsrrs (rd : BitVec 5) (csr : BitVec 12) (rs1 : BitVec 5) (s : State) : Host.Outcome State Fault Refusal :=
  .next (csrModify (encode (.csrrs rd csr rs1)) rd csr (decide (rs1 ≠ 0)) (fun t => t ||| readX s rs1) s)

/-- CSRRC (R447). -/
def execCsrrc (rd : BitVec 5) (csr : BitVec 12) (rs1 : BitVec 5) (s : State) : Host.Outcome State Fault Refusal :=
  .next (csrModify (encode (.csrrc rd csr rs1)) rd csr (decide (rs1 ≠ 0)) (fun t => t &&& ~~~(readX s rs1)) s)

/-- CSRRWI (R448). -/
def execCsrrwi (rd : BitVec 5) (csr : BitVec 12) (uimm : BitVec 5) (s : State) : Host.Outcome State Fault Refusal :=
  .next (csrSwap (encode (.csrrwi rd csr uimm)) rd csr (uimm.setWidth 64) s)

/-- CSRRSI (R449). -/
def execCsrrsi (rd : BitVec 5) (csr : BitVec 12) (uimm : BitVec 5) (s : State) : Host.Outcome State Fault Refusal :=
  .next (csrModify (encode (.csrrsi rd csr uimm)) rd csr (decide (uimm ≠ 0)) (fun t => t ||| uimm.setWidth 64) s)

/-- CSRRCI (R450). -/
def execCsrrci (rd : BitVec 5) (csr : BitVec 12) (uimm : BitVec 5) (s : State) : Host.Outcome State Fault Refusal :=
  .next (csrModify (encode (.csrrci rd csr uimm)) rd csr (decide (uimm ≠ 0)) (fun t => t &&& ~~~(uimm.setWidth 64)) s)

/-- MRET (R451). -/
def execMret (s : State) : Host.Outcome State Fault Refusal :=
  .next (onResponse (encode .mret) (machineReturn s) finishAt)

/-- SRET (R451). -/
def execSret (s : State) : Host.Outcome State Fault Refusal :=
  .next (onResponse (encode .sret) (supervisorReturn s) finishAt)

/-- ECALL (R451). -/
def execEcall (s : State) : Host.Outcome State Fault Refusal :=
  .next (hostTrap false (envCall s.curPrivilege).code 0 s)

/-- EBREAK: the trap value is the pc (R451). -/
def execEbreak (s : State) : Host.Outcome State Fault Refusal :=
  .next (hostTrap false ExceptionCause.breakpoint.code s.pc s)

/-- WFI is refused: TW is set and the level is below Machine (R436, R451, log 10). -/
def wfiRefused (s : State) : Bool :=
  decide (getField s.mstatus Mstatus.tw = 1) && decide (s.curPrivilege ≠ .machine)

/-- WFI: no command but its RETIRE; the wait ends at once (R451, 60_exceptions.md R546, log 10). -/
def execWfi (s : State) : Host.Outcome State Fault Refusal :=
  .next (s.command fun s => if wfiRefused s then raiseIllegal (encode .wfi) s else finishAt (nextInstr s) s)

/-- The interrupt codes by priority, highest first: MEI, MSI, MTI, SEI, SSI, STI, UEI, USI, UTI (60_exceptions.md R520). -/
def interruptPriority : List Nat := [11, 3, 7, 9, 1, 5, 8, 0, 4]

/-- The highest-priority interrupt of a pending mask (60_exceptions.md R520). -/
def highestInterrupt (pend : Word) : Option Nat := interruptPriority.find? fun n => bitOf pend n

/-- The interrupt the host takes now, if one is due (60_exceptions.md R520). -/
def dueInterrupt (s : State) : Option Nat :=
  let pend := s.mip &&& s.mie
  let machineOpen := decide (s.curPrivilege ≠ .machine) || decide (getField s.mstatus Mstatus.mie = 1)
  let supervisorOpen := decide (s.curPrivilege = .user)
    || (decide (s.curPrivilege = .supervisor) && decide (getField s.mstatus Mstatus.sie = 1))
  let mOk := if machineOpen then pend &&& ~~~s.mideleg else 0
  let sOk := if supervisorOpen then pend &&& s.mideleg else 0
  if mOk ≠ 0 then highestInterrupt mOk else highestInterrupt sOk

/-- The host looks for a due interrupt and takes it, with trap value 0 (60_exceptions.md R520, log 14). -/
def pollInterrupt (s : State) : State :=
  s.command fun s =>
    match dueInterrupt s with
    | some n => hostTrap true (BitVec.ofNat 64 n) 0 s
    | none => s

/-- The host raises an exception of its choice at its pc (60_exceptions.md R510, R512, log 15). -/
def raiseException (code tval : Word) (s : State) : State :=
  let x := s.params.xlen
  hostTrap false (x.trunc code) (x.trunc tval) s

/-- The word is SFENCE.VMA: match 0x12000073, mask 0xFE007FFF (PRESUMED, log 19). -/
def isSfenceVma (word : BitVec 32) : Bool := decide (word &&& 0xFE007FFF = 0x12000073)

/-- SFENCE.VMA is refused: TVM is set at Supervisor level, as for satp (45_host_ports.md R436, R420, log 19). -/
def sfenceRefused (s : State) : Bool :=
  decide (s.curPrivilege = .supervisor) && decide (getField s.mstatus Mstatus.tvm = 1)

/-- An instruction the block never sees (00_scope.md R5): a refused SFENCE.VMA is an illegal instruction
(45_host_ports.md R436). Every other word, the fences included, is executed by the host, whose result is `host`: the block
sees its RETIRE (44_counters.md R370, 20_memory.md R107), or the exception the host raises (60_exceptions.md R512). -/
def outsideInstr (word : BitVec 32) (host : HostResult) (s : State) : State :=
  s.command fun s =>
    if isSfenceVma word && sfenceRefused s then raiseIllegal word s
    else
      let x := s.params.xlen
      match host with
      | .retires rd value target => finishAt (x.trunc target) (s.writeX rd (x.trunc value))
      | .raises code tval => raiseException code tval s

end Sys2Proof.Machine
end

