-- ==== Sys2Proof/Machine/HostPorts.lean ====
section
/-! DEFINITION. The raw port and the internal port (45_host_ports.md R400 to R406). -/

namespace Sys2Proof.Machine

/-- `RAWMASK(R)`, the bits a raw write of a storage register can change; the counters at one XLEN-bit CSR
(45_host_ports.md R401). -/
def rawMask (x : Xlen) (c : Csr) : Word :=
  match c with
  | .misa => 0
  | .mstatus => 0x007FF9BB
  | .mip | .mie => mintDef
  | .mideleg => midelegMask
  | .medeleg => medelegMask
  | .mcounteren | .scounteren => 0x7
  | .mcountinhibit => 0x5
  | .mcycleh | .minstreth => 0x00000000FFFFFFFF
  | .mvendorid | .marchid | .mimpid | .mhartid => 0
  | .sstatus | .sip | .sie | .sideleg | .sedeleg => 0
  | .mtvec | .stvec | .mcause | .scause | .mtval | .stval | .mscratch | .sscratch | .mepc | .sepc | .tselect | .satp
  | .mcycle | .minstret => x.ones

/-- The stored value a raw read of a storage register returns, with no read mask (45_host_ports.md R400). -/
def rawValue (c : Csr) (s : State) : Word :=
  match c with
  | .mepc => s.mepc
  | .sepc => s.sepc
  | .misa => readMisa s
  | .mstatus => readMstatus s
  | .mip => readMip s
  | .mie => readMie s
  | .mideleg => readMideleg s
  | .medeleg => readMedeleg s
  | .mtvec => readMtvec s
  | .mcounteren => readMcounteren s
  | .mcountinhibit => readMcountinhibit s
  | .mscratch => readMscratch s
  | .mcause => readMcause s
  | .mtval => readMtval s
  | .mvendorid => readMvendorid s
  | .marchid => readMarchid s
  | .mimpid => readMimpid s
  | .mhartid => readMhartid s
  | .tselect => readTselect s
  | .mcycle => readMcycle s
  | .minstret => readMinstret s
  | .mcycleh => readMcycleh s
  | .minstreth => readMinstreth s
  | .stvec => readStvec s
  | .scounteren => readScounteren s
  | .sscratch => readSscratch s
  | .scause => readScause s
  | .stval => readStval s
  | .satp => readSatp s
  | .sstatus | .sip | .sie | .sideleg | .sedeleg => 0

/-- RAW_READ (45_host_ports.md R400). -/
def rawRead (addr : BitVec 12) (s : State) : State :=
  s.command fun s =>
    match Csr.ofAddr addr with
    | none => s.reject .noSuchCsr
    | some c =>
      if !c.assignedAt s.params.xlen then s.reject .noSuchCsr
      else if c.isView then s.reject .notStorage
      else s.respond (some (rawValue c s))

/-- The value a raw write leaves in a register that held `old` (45_host_ports.md R403). -/
def rawMerge (x : Xlen) (c : Csr) (old m d : Word) : Word := mergeBits (m &&& rawMask x c) old d

/-- A 64-bit counter after a raw write of it: all of it, or its low half when XLEN=32 (45_host_ports.md R403). -/
def rawCounterLow (x : Xlen) (old m d : Word) : Word :=
  match x with
  | .rv32 => joinHalves (highHalf old) (mergeBits (lowHalf m) (lowHalf old) d)
  | .rv64 => mergeBits m old d

/-- A 64-bit counter after a raw write of its upper half (45_host_ports.md R403). -/
def rawCounterHigh (old m d : Word) : Word := joinHalves (mergeBits (lowHalf m) (highHalf old) d) old

/-- The commit of a raw write with mask `m` and data `d` (45_host_ports.md R403). A raw write of minstret does not set
minstret_written. -/
def rawCommit (c : Csr) (m d : Word) (s : State) : State :=
  let x := s.params.xlen
  match c with
  | .mstatus => { s with mstatus := withSd x (rawMerge x .mstatus s.mstatus m d) }
  | .mcounteren => { s with mcounteren := (rawMerge x .mcounteren (s.mcounteren.setWidth 64) m d).setWidth 32 }
  | .scounteren => { s with scounteren := (rawMerge x .scounteren (s.scounteren.setWidth 64) m d).setWidth 32 }
  | .mcountinhibit =>
    { s with mcountinhibit := (rawMerge x .mcountinhibit (s.mcountinhibit.setWidth 64) m d).setWidth 32 }
  | .mcycle => { s with mcycle := rawCounterLow x s.mcycle m d }
  | .minstret => { s with minstret := rawCounterLow x s.minstret m d }
  | .mcycleh => { s with mcycle := rawCounterHigh s.mcycle m d }
  | .minstreth => { s with minstret := rawCounterHigh s.minstret m d }
  | .misa => { s with misa := rawMerge x .misa s.misa m d }
  | .mip => { s with mip := rawMerge x .mip s.mip m d }
  | .mie => { s with mie := rawMerge x .mie s.mie m d }
  | .mideleg => { s with mideleg := rawMerge x .mideleg s.mideleg m d }
  | .medeleg => { s with medeleg := rawMerge x .medeleg s.medeleg m d }
  | .mtvec => { s with mtvec := rawMerge x .mtvec s.mtvec m d }
  | .mscratch => { s with mscratch := rawMerge x .mscratch s.mscratch m d }
  | .mepc => { s with mepc := rawMerge x .mepc s.mepc m d }
  | .mcause => { s with mcause := rawMerge x .mcause s.mcause m d }
  | .mtval => { s with mtval := rawMerge x .mtval s.mtval m d }
  | .tselect => { s with tselect := rawMerge x .tselect s.tselect m d }
  | .stvec => { s with stvec := rawMerge x .stvec s.stvec m d }
  | .sscratch => { s with sscratch := rawMerge x .sscratch s.sscratch m d }
  | .sepc => { s with sepc := rawMerge x .sepc s.sepc m d }
  | .scause => { s with scause := rawMerge x .scause s.scause m d }
  | .stval => { s with stval := rawMerge x .stval s.stval m d }
  | .satp => { s with satp := rawMerge x .satp s.satp m d }
  | .mvendorid | .marchid | .mimpid | .mhartid => s
  | .sstatus | .sip | .sie | .sideleg | .sedeleg => s

/-- RAW_WRITE (45_host_ports.md R403). -/
def rawWrite (addr : BitVec 12) (p : Inputs) (s : State) : State :=
  s.command fun s =>
    match Csr.ofAddr addr with
    | none => s.reject .noSuchCsr
    | some c =>
      if !c.assignedAt s.params.xlen then s.reject .noSuchCsr
      else if c.isView then s.reject .notStorage
      else if c.isReadOnly then s.reject .readOnly
      else (rawCommit c (p.mask s.params.xlen) (p.data s.params.xlen) s).respond none

/-- The value of an internal register (45_host_ports.md R405). -/
def internalValue (r : IntReg) (s : State) : Word :=
  match r with
  | .curPrivilege => s.curPrivilege.code
  | .curInst => s.curInst
  | .minstretWritten => flagWord s.minstretWritten
  | .mtime => s.mtime
  | .mcycle => s.mcycle
  | .minstret => s.minstret

/-- INT_READ (45_host_ports.md R405). -/
def intRead (r : IntReg) (s : State) : State := s.command fun s => s.respond (some (internalValue r s))

/-- INT_WRITE of cur_privilege: the code 0b10 is a bad value (45_host_ports.md R406). -/
def writeCurPrivilege (d : Word) (s : State) : State :=
  match Privilege.ofCode (d &&& 0b11) with
  | some p => { s with curPrivilege := p }.respond none
  | none => s.reject .badValue

/-- INT_WRITE (45_host_ports.md R406). -/
def intWrite (r : IntReg) (p : Inputs) (s : State) : State :=
  s.command fun s =>
    match r with
    | .curPrivilege => writeCurPrivilege p.wdata s
    | .curInst => { s with curInst := s.params.xlen.trunc p.wdata }.respond none
    | .minstretWritten => { s with minstretWritten := bitOf p.wdata 0 }.respond none
    | .mtime => { s with mtime := p.wdata }.respond none
    | .mcycle => { s with mcycle := p.wdata }.respond none
    | .minstret => { s with minstret := p.wdata }.respond none

/-- RAW_READ (R400). -/
def execRawRead (addr : BitVec 12) (s : State) : Host.Outcome State Fault Refusal :=
  .next (rawRead addr s)

/-- RAW_WRITE (R403). -/
def execRawWrite (addr : BitVec 12) (s : State) : Host.Outcome State Fault Refusal :=
  .next (rawWrite addr s.port s)

/-- INT_READ cur_privilege (R405). -/
def execIntReadCurPrivilege (s : State) : Host.Outcome State Fault Refusal :=
  .next (intRead .curPrivilege s)

/-- INT_WRITE cur_privilege (R406). -/
def execIntWriteCurPrivilege (s : State) : Host.Outcome State Fault Refusal :=
  .next (intWrite .curPrivilege s.port s)

/-- INT_READ cur_inst (R405). -/
def execIntReadCurInst (s : State) : Host.Outcome State Fault Refusal :=
  .next (intRead .curInst s)

/-- INT_WRITE cur_inst (R406). -/
def execIntWriteCurInst (s : State) : Host.Outcome State Fault Refusal :=
  .next (intWrite .curInst s.port s)

/-- INT_READ minstret_written (R405). -/
def execIntReadMinstretWritten (s : State) : Host.Outcome State Fault Refusal :=
  .next (intRead .minstretWritten s)

/-- INT_WRITE minstret_written (R406). -/
def execIntWriteMinstretWritten (s : State) : Host.Outcome State Fault Refusal :=
  .next (intWrite .minstretWritten s.port s)

/-- INT_READ mtime (R405). -/
def execIntReadMtime (s : State) : Host.Outcome State Fault Refusal :=
  .next (intRead .mtime s)

/-- INT_WRITE mtime (R406). -/
def execIntWriteMtime (s : State) : Host.Outcome State Fault Refusal :=
  .next (intWrite .mtime s.port s)

/-- INT_READ mcycle (R405). -/
def execIntReadMcycle (s : State) : Host.Outcome State Fault Refusal :=
  .next (intRead .mcycle s)

/-- INT_WRITE mcycle (R406). -/
def execIntWriteMcycle (s : State) : Host.Outcome State Fault Refusal :=
  .next (intWrite .mcycle s.port s)

/-- INT_READ minstret (R405). -/
def execIntReadMinstret (s : State) : Host.Outcome State Fault Refusal :=
  .next (intRead .minstret s)

/-- INT_WRITE minstret (R406). -/
def execIntWriteMinstret (s : State) : Host.Outcome State Fault Refusal :=
  .next (intWrite .minstret s.port s)

end Sys2Proof.Machine
end

