-- ==== Sys2Proof/Machine/MachineCsrs.lean ====
section
/-! DEFINITION. The meanings of CSR_READ and CSR_WRITE of the storage registers and of the unassigned numbers (41_machine_csrs.md). -/

namespace Sys2Proof.Machine

/-- CSR_READ misa (R232). -/
def execCsrReadMisa (s : State) : Host.Outcome State Fault Refusal :=
  .next (csrRead .misa s)

/-- CSR_WRITE misa (R233). -/
def execCsrWriteMisa (s : State) : Host.Outcome State Fault Refusal :=
  .next (csrWrite .misa s.port s)

/-- CSR_READ mstatus (R234). -/
def execCsrReadMstatus (s : State) : Host.Outcome State Fault Refusal :=
  .next (csrRead .mstatus s)

/-- CSR_WRITE mstatus (R235). -/
def execCsrWriteMstatus (s : State) : Host.Outcome State Fault Refusal :=
  .next (csrWrite .mstatus s.port s)

/-- CSR_READ mip (R236). -/
def execCsrReadMip (s : State) : Host.Outcome State Fault Refusal :=
  .next (csrRead .mip s)

/-- CSR_WRITE mip (R237). -/
def execCsrWriteMip (s : State) : Host.Outcome State Fault Refusal :=
  .next (csrWrite .mip s.port s)

/-- CSR_READ mie (R238). -/
def execCsrReadMie (s : State) : Host.Outcome State Fault Refusal :=
  .next (csrRead .mie s)

/-- CSR_WRITE mie (R239). -/
def execCsrWriteMie (s : State) : Host.Outcome State Fault Refusal :=
  .next (csrWrite .mie s.port s)

/-- CSR_READ mideleg (R240). -/
def execCsrReadMideleg (s : State) : Host.Outcome State Fault Refusal :=
  .next (csrRead .mideleg s)

/-- CSR_WRITE mideleg (R241). -/
def execCsrWriteMideleg (s : State) : Host.Outcome State Fault Refusal :=
  .next (csrWrite .mideleg s.port s)

/-- CSR_READ medeleg (R242). -/
def execCsrReadMedeleg (s : State) : Host.Outcome State Fault Refusal :=
  .next (csrRead .medeleg s)

/-- CSR_WRITE medeleg (R243). -/
def execCsrWriteMedeleg (s : State) : Host.Outcome State Fault Refusal :=
  .next (csrWrite .medeleg s.port s)

/-- CSR_READ mtvec (R244). -/
def execCsrReadMtvec (s : State) : Host.Outcome State Fault Refusal :=
  .next (csrRead .mtvec s)

/-- CSR_WRITE mtvec (R245). -/
def execCsrWriteMtvec (s : State) : Host.Outcome State Fault Refusal :=
  .next (csrWrite .mtvec s.port s)

/-- CSR_READ mcounteren (R246). -/
def execCsrReadMcounteren (s : State) : Host.Outcome State Fault Refusal :=
  .next (csrRead .mcounteren s)

/-- CSR_WRITE mcounteren (R247). -/
def execCsrWriteMcounteren (s : State) : Host.Outcome State Fault Refusal :=
  .next (csrWrite .mcounteren s.port s)

/-- CSR_READ mcountinhibit (R248). -/
def execCsrReadMcountinhibit (s : State) : Host.Outcome State Fault Refusal :=
  .next (csrRead .mcountinhibit s)

/-- CSR_WRITE mcountinhibit (R249). -/
def execCsrWriteMcountinhibit (s : State) : Host.Outcome State Fault Refusal :=
  .next (csrWrite .mcountinhibit s.port s)

/-- CSR_READ mscratch (R250). -/
def execCsrReadMscratch (s : State) : Host.Outcome State Fault Refusal :=
  .next (csrRead .mscratch s)

/-- CSR_WRITE mscratch (R251). -/
def execCsrWriteMscratch (s : State) : Host.Outcome State Fault Refusal :=
  .next (csrWrite .mscratch s.port s)

/-- CSR_READ mepc (R252). -/
def execCsrReadMepc (s : State) : Host.Outcome State Fault Refusal :=
  .next (csrRead .mepc s)

/-- CSR_WRITE mepc (R253). -/
def execCsrWriteMepc (s : State) : Host.Outcome State Fault Refusal :=
  .next (csrWrite .mepc s.port s)

/-- CSR_READ mcause (R254). -/
def execCsrReadMcause (s : State) : Host.Outcome State Fault Refusal :=
  .next (csrRead .mcause s)

/-- CSR_WRITE mcause (R255). -/
def execCsrWriteMcause (s : State) : Host.Outcome State Fault Refusal :=
  .next (csrWrite .mcause s.port s)

/-- CSR_READ mtval (R256). -/
def execCsrReadMtval (s : State) : Host.Outcome State Fault Refusal :=
  .next (csrRead .mtval s)

/-- CSR_WRITE mtval (R257). -/
def execCsrWriteMtval (s : State) : Host.Outcome State Fault Refusal :=
  .next (csrWrite .mtval s.port s)

/-- CSR_READ mvendorid (R258). -/
def execCsrReadMvendorid (s : State) : Host.Outcome State Fault Refusal :=
  .next (csrRead .mvendorid s)

/-- CSR_WRITE mvendorid (R259). -/
def execCsrWriteMvendorid (s : State) : Host.Outcome State Fault Refusal :=
  .next (csrWrite .mvendorid s.port s)

/-- CSR_READ marchid (R260). -/
def execCsrReadMarchid (s : State) : Host.Outcome State Fault Refusal :=
  .next (csrRead .marchid s)

/-- CSR_WRITE marchid (R261). -/
def execCsrWriteMarchid (s : State) : Host.Outcome State Fault Refusal :=
  .next (csrWrite .marchid s.port s)

/-- CSR_READ mimpid (R262). -/
def execCsrReadMimpid (s : State) : Host.Outcome State Fault Refusal :=
  .next (csrRead .mimpid s)

/-- CSR_WRITE mimpid (R263). -/
def execCsrWriteMimpid (s : State) : Host.Outcome State Fault Refusal :=
  .next (csrWrite .mimpid s.port s)

/-- CSR_READ mhartid (R264). -/
def execCsrReadMhartid (s : State) : Host.Outcome State Fault Refusal :=
  .next (csrRead .mhartid s)

/-- CSR_WRITE mhartid (R265). -/
def execCsrWriteMhartid (s : State) : Host.Outcome State Fault Refusal :=
  .next (csrWrite .mhartid s.port s)

/-- CSR_READ tselect (R266). -/
def execCsrReadTselect (s : State) : Host.Outcome State Fault Refusal :=
  .next (csrRead .tselect s)

/-- CSR_WRITE tselect (R267). -/
def execCsrWriteTselect (s : State) : Host.Outcome State Fault Refusal :=
  .next (csrWrite .tselect s.port s)

/-- CSR_READ mcycle (R268). -/
def execCsrReadMcycle (s : State) : Host.Outcome State Fault Refusal :=
  .next (csrRead .mcycle s)

/-- CSR_WRITE mcycle (R269). -/
def execCsrWriteMcycle (s : State) : Host.Outcome State Fault Refusal :=
  .next (csrWrite .mcycle s.port s)

/-- CSR_READ minstret (R270). -/
def execCsrReadMinstret (s : State) : Host.Outcome State Fault Refusal :=
  .next (csrRead .minstret s)

/-- CSR_WRITE minstret (R271). -/
def execCsrWriteMinstret (s : State) : Host.Outcome State Fault Refusal :=
  .next (csrWrite .minstret s.port s)

/-- CSR_READ mcycleh (R272). -/
def execCsrReadMcycleh (s : State) : Host.Outcome State Fault Refusal :=
  .next (csrRead .mcycleh s)

/-- CSR_WRITE mcycleh (R273). -/
def execCsrWriteMcycleh (s : State) : Host.Outcome State Fault Refusal :=
  .next (csrWrite .mcycleh s.port s)

/-- CSR_READ minstreth (R274). -/
def execCsrReadMinstreth (s : State) : Host.Outcome State Fault Refusal :=
  .next (csrRead .minstreth s)

/-- CSR_WRITE minstreth (R275). -/
def execCsrWriteMinstreth (s : State) : Host.Outcome State Fault Refusal :=
  .next (csrWrite .minstreth s.port s)

/-- CSR_READ stvec (R276). -/
def execCsrReadStvec (s : State) : Host.Outcome State Fault Refusal :=
  .next (csrRead .stvec s)

/-- CSR_WRITE stvec (R277). -/
def execCsrWriteStvec (s : State) : Host.Outcome State Fault Refusal :=
  .next (csrWrite .stvec s.port s)

/-- CSR_READ scounteren (R278). -/
def execCsrReadScounteren (s : State) : Host.Outcome State Fault Refusal :=
  .next (csrRead .scounteren s)

/-- CSR_WRITE scounteren (R279). -/
def execCsrWriteScounteren (s : State) : Host.Outcome State Fault Refusal :=
  .next (csrWrite .scounteren s.port s)

/-- CSR_READ sscratch (R280). -/
def execCsrReadSscratch (s : State) : Host.Outcome State Fault Refusal :=
  .next (csrRead .sscratch s)

/-- CSR_WRITE sscratch (R281). -/
def execCsrWriteSscratch (s : State) : Host.Outcome State Fault Refusal :=
  .next (csrWrite .sscratch s.port s)

/-- CSR_READ sepc (R282). -/
def execCsrReadSepc (s : State) : Host.Outcome State Fault Refusal :=
  .next (csrRead .sepc s)

/-- CSR_WRITE sepc (R283). -/
def execCsrWriteSepc (s : State) : Host.Outcome State Fault Refusal :=
  .next (csrWrite .sepc s.port s)

/-- CSR_READ scause (R284). -/
def execCsrReadScause (s : State) : Host.Outcome State Fault Refusal :=
  .next (csrRead .scause s)

/-- CSR_WRITE scause (R285). -/
def execCsrWriteScause (s : State) : Host.Outcome State Fault Refusal :=
  .next (csrWrite .scause s.port s)

/-- CSR_READ stval (R286). -/
def execCsrReadStval (s : State) : Host.Outcome State Fault Refusal :=
  .next (csrRead .stval s)

/-- CSR_WRITE stval (R287). -/
def execCsrWriteStval (s : State) : Host.Outcome State Fault Refusal :=
  .next (csrWrite .stval s.port s)

/-- CSR_READ satp (R288). -/
def execCsrReadSatp (s : State) : Host.Outcome State Fault Refusal :=
  .next (csrRead .satp s)

/-- CSR_WRITE satp (R289). -/
def execCsrWriteSatp (s : State) : Host.Outcome State Fault Refusal :=
  .next (csrWrite .satp s.port s)

/-- CSR_READ of a number no register has (R290); a term that names an assigned number is no instruction (log 18). -/
def execCsrReadUnassigned (addr : BitVec 12) (s : State) : Host.Outcome State Fault Refusal :=
  if (Csr.ofAddr addr).isNone then .next (noSuchCsr s) else .fault .illFormed

/-- CSR_WRITE of a number no register has (R290); a term that names an assigned number is no instruction (log 18). -/
def execCsrWriteUnassigned (addr : BitVec 12) (s : State) : Host.Outcome State Fault Refusal :=
  if (Csr.ofAddr addr).isNone then .next (noSuchCsr s) else .fault .illFormed

end Sys2Proof.Machine
end

