-- ==== Sys2Proof/Machine/Reset.lean ====
section
/-! DEFINITION. RESET and power-on (70_reset_and_hazards.md R600 to R602). -/

namespace Sys2Proof.Machine

/-- misa after reset (10_state.md R36). -/
def resetMisa (q : Params) (caps : Caps) : Word :=
  let x := q.xlen
  let m := setField (q.misaFixed.setWidth 64) (.bit Misa.c) (flagWord caps.rvcBoot)
  let m := setField m (.bit Misa.d) (flagWord caps.fdextBoot)
  let m := setField m (.bit Misa.f) (flagWord caps.fdextBoot)
  setField m (Misa.mxl x) x.arch.code

/-- The bits of mstatus the draw supplies: UIE, SIE, UPIE, SPIE, MPIE, SPP, MPP, FS, SUM, MXR, TVM, TW and TSR, without
UIE and UPIE where the hart lacks N (10_state.md R41). -/
def drawnMstatus (hasN : Bool) : Word := if hasN then 0x007C79B3 else 0x007C79A2

/-- mstatus after reset (10_state.md R41). -/
def resetMstatus (q : Params) (d : Word) : Word :=
  let x := q.xlen
  let m := d &&& drawnMstatus (bitOf (q.misaFixed.setWidth 64) Misa.n)
  let m := match x with
    | .rv32 => m
    | .rv64 => setField (setField m Mstatus.sxl Architecture.rv64.code) Mstatus.uxl Architecture.rv64.code
  withSd x m

/-- A drawn xtvec: its mode is Direct or Vectored (10_state.md R48, log 3). -/
def drawTvec (x : Xlen) (d : Word) : Word := x.trunc d &&& ~~~0b10

/-- A drawn xepc: its bit 0 is 0 (10_state.md R50, log 3). -/
def drawEpc (x : Xlen) (d : Word) : Word := x.trunc d &&& ~~~0b01

/-- A drawn satp: at XLEN=64 a mode the hart does not recognize is drawn as Bare (10_state.md R54, log 3). -/
def drawSatp (q : Params) (d : Word) : Word :=
  match q.xlen with
  | .rv32 => Xlen.rv32.trunc d
  | .rv64 =>
    let mode := getField d ⟨63, 60⟩
    if mode = 0 ∨ mode = 8 ∨ (mode = 9 ∧ q.haveSv48 = true) then d else setField d ⟨63, 60⟩ 0

/-- Every register of the block but `faulted` at its reset value (70_reset_and_hazards.md R600, R601). The pc, the
general registers and the pending requests are the host's and stay (log 16). -/
def resetBlock (p : Inputs) (s : State) : State :=
  let q := s.params
  let x := q.xlen
  let d := p.draw
  { s with
    misa := resetMisa q p.caps
    mstatus := resetMstatus q d.mstatus
    mip := d.mip &&& mintDef
    mie := d.mie &&& mintDef
    mideleg := d.mideleg &&& midelegMask
    medeleg := d.medeleg &&& medelegMask
    mtvec := drawTvec x d.mtvec
    stvec := drawTvec x d.stvec
    mcause := x.trunc d.mcause
    scause := x.trunc d.scause
    mepc := drawEpc x d.mepc
    sepc := drawEpc x d.sepc
    mtval := x.trunc d.mtval
    stval := x.trunc d.stval
    mscratch := x.trunc d.mscratch
    sscratch := x.trunc d.sscratch
    mcounteren := d.mcounteren &&& counterenMask
    scounteren := d.scounteren &&& counterenMask
    mcountinhibit := d.mcountinhibit &&& countinhibitMask
    satp := drawSatp q d.satp
    mcycle := d.mcycle
    mtime := d.mtime
    minstret := d.minstret
    minstretWritten := false
    tselect := x.trunc d.tselect
    curPrivilege := .machine
    curInst := x.trunc d.curInst }

/-- RESET (70_reset_and_hazards.md R600). -/
def resetCommand (p : Inputs) (s : State) : State := s.command fun s => (resetBlock p s).respond none

/-- A new instance with parameters `q`, created under the inputs `p`: the reset values of R601, `faulted` = 0, and the
host at RESET_PC (70_reset_and_hazards.md R600 to R602, 60_exceptions.md R502). -/
def powerOn (q : Params) (p : Inputs) : State :=
  resetBlock p { State.reset with params := q, faulted := false, port := p, pc := q.xlen.trunc q.resetPc }

/-- RESET (R600). -/
def execReset (s : State) : Host.Outcome State Fault Refusal :=
  .next (resetCommand s.port s)

end Sys2Proof.Machine
end

