-- ==== Sys2Proof/Machine/Resolvers.lean ====
section
/-! DEFINITION. The resolvers and the extension queries (43_resolvers.md R340 to R351), and RETIRE (44_counters.md R371). -/

namespace Sys2Proof.Machine

/-- EFF_PRIV (43_resolvers.md R341). -/
def effPriv (k : AccessKind) (s : State) : State :=
  s.command fun s =>
    match effectivePrivilege k s with
    | some p => s.respond (some p.code)
    | none => s.fail .invalidPrivilege

/-- CUR_ARCH (43_resolvers.md R343). -/
def curArch (s : State) : State :=
  s.command fun s =>
    match currentArchitecture s with
    | some a => s.respond (some a.code)
    | none => s.fail .invalidArch

/-- TVEC_ADDR M: no value where the mode is reserved (43_resolvers.md R346, 90_conflicts.md C5). -/
def tvecAddrMachine (s : State) : State :=
  s.command fun s => s.respond (tvecAddr s.params.xlen s.mtvec s.mcause)

/-- TVEC_ADDR S (43_resolvers.md R347). -/
def tvecAddrSupervisor (s : State) : State :=
  s.command fun s => s.respond (tvecAddr s.params.xlen s.stvec s.scause)

/-- PC_ALIGN_MASK (43_resolvers.md R349). -/
def pcAlignMask (s : State) : State := s.command fun s => s.respond (some (pcAlignmentMask s))

/-- The predicate of an extension (40_codec_capabilities.md R211). -/
def haveExtension (e : Ext) (s : State) : Bool :=
  match e with
  | .a => haveA s
  | .c => haveC s
  | .m => haveM s
  | .s => haveS s
  | .u => haveU s
  | .n => haveN s
  | .f => haveF s
  | .d => haveD s

/-- HAVE_EXT (43_resolvers.md R351). -/
def haveExt (e : Ext) (s : State) : State := s.command fun s => s.respond (some (flagWord (haveExtension e s)))

/-- EFF_PRIV Read (R341). -/
def execEffPrivRead (s : State) : Host.Outcome State Fault Refusal :=
  .next (effPriv .read s)

/-- EFF_PRIV Write (R341). -/
def execEffPrivWrite (s : State) : Host.Outcome State Fault Refusal :=
  .next (effPriv .write s)

/-- EFF_PRIV ReadWrite (R341). -/
def execEffPrivReadWrite (s : State) : Host.Outcome State Fault Refusal :=
  .next (effPriv .readWrite s)

/-- EFF_PRIV Execute (R341). -/
def execEffPrivExecute (s : State) : Host.Outcome State Fault Refusal :=
  .next (effPriv .execute s)

/-- CUR_ARCH (R343). -/
def execCurArch (s : State) : Host.Outcome State Fault Refusal :=
  .next (curArch s)

/-- TVEC_ADDR M (R346). -/
def execTvecAddrM (s : State) : Host.Outcome State Fault Refusal :=
  .next (tvecAddrMachine s)

/-- TVEC_ADDR S (R347). -/
def execTvecAddrS (s : State) : Host.Outcome State Fault Refusal :=
  .next (tvecAddrSupervisor s)

/-- PC_ALIGN_MASK (R349). -/
def execPcAlignMask (s : State) : Host.Outcome State Fault Refusal :=
  .next (pcAlignMask s)

/-- HAVE_EXT A (R351). -/
def execHaveExtA (s : State) : Host.Outcome State Fault Refusal :=
  .next (haveExt .a s)

/-- HAVE_EXT C (R351). -/
def execHaveExtC (s : State) : Host.Outcome State Fault Refusal :=
  .next (haveExt .c s)

/-- HAVE_EXT M (R351). -/
def execHaveExtM (s : State) : Host.Outcome State Fault Refusal :=
  .next (haveExt .m s)

/-- HAVE_EXT S (R351). -/
def execHaveExtS (s : State) : Host.Outcome State Fault Refusal :=
  .next (haveExt .s s)

/-- HAVE_EXT U (R351). -/
def execHaveExtU (s : State) : Host.Outcome State Fault Refusal :=
  .next (haveExt .u s)

/-- HAVE_EXT N (R351). -/
def execHaveExtN (s : State) : Host.Outcome State Fault Refusal :=
  .next (haveExt .n s)

/-- HAVE_EXT F (R351). -/
def execHaveExtF (s : State) : Host.Outcome State Fault Refusal :=
  .next (haveExt .f s)

/-- HAVE_EXT D (R351). -/
def execHaveExtD (s : State) : Host.Outcome State Fault Refusal :=
  .next (haveExt .d s)

/-- RETIRE (R371). -/
def execRetire (s : State) : Host.Outcome State Fault Refusal :=
  .next (retireInstruction s)

end Sys2Proof.Machine
end

