-- ==== Sys2Proof/Machine/SupervisorViews.lean ====
section
/-! DEFINITION. The meanings of CSR_READ and CSR_WRITE of the supervisor views (42_views.md). -/

namespace Sys2Proof.Machine

/-- CSR_READ sstatus (R301). -/
def execCsrReadSstatus (s : State) : Host.Outcome State Fault Refusal :=
  .next (csrRead .sstatus s)

/-- CSR_WRITE sstatus (R302). -/
def execCsrWriteSstatus (s : State) : Host.Outcome State Fault Refusal :=
  .next (csrWrite .sstatus s.port s)

/-- CSR_READ sip (R303). -/
def execCsrReadSip (s : State) : Host.Outcome State Fault Refusal :=
  .next (csrRead .sip s)

/-- CSR_WRITE sip (R304). -/
def execCsrWriteSip (s : State) : Host.Outcome State Fault Refusal :=
  .next (csrWrite .sip s.port s)

/-- CSR_READ sie (R305). -/
def execCsrReadSie (s : State) : Host.Outcome State Fault Refusal :=
  .next (csrRead .sie s)

/-- CSR_WRITE sie (R306). -/
def execCsrWriteSie (s : State) : Host.Outcome State Fault Refusal :=
  .next (csrWrite .sie s.port s)

/-- CSR_READ sideleg (R307). -/
def execCsrReadSideleg (s : State) : Host.Outcome State Fault Refusal :=
  .next (csrRead .sideleg s)

/-- CSR_WRITE sideleg (R308). -/
def execCsrWriteSideleg (s : State) : Host.Outcome State Fault Refusal :=
  .next (csrWrite .sideleg s.port s)

/-- CSR_READ sedeleg (R309). -/
def execCsrReadSedeleg (s : State) : Host.Outcome State Fault Refusal :=
  .next (csrRead .sedeleg s)

/-- CSR_WRITE sedeleg (R310). -/
def execCsrWriteSedeleg (s : State) : Host.Outcome State Fault Refusal :=
  .next (csrWrite .sedeleg s.port s)

end Sys2Proof.Machine
end

