-- ==== Sys2Proof/Machine/Traps.lean ====
section
/-! DEFINITION. ACCESS_CHECK, TRAP_ENTER and XRET on the command port (45_host_ports.md R420, R430 to R435). The block returns
addresses as data: no command moves the pc of the host (00_scope.md R10, log 17). -/

namespace Sys2Proof.Machine

/-- TRAP_ENTER with the operands of the port (30_encoding.md R126, 45_host_ports.md R430). -/
def trapEnterFromPort (interrupt : Bool) (p : Inputs) (s : State) : State :=
  let x := s.params.xlen
  trapEnter interrupt (p.data x) (x.trunc p.tval) (x.trunc p.epc) s

/-- ACCESS_CHECK read (R420). -/
def execAccessCheckRead (addr : BitVec 12) (s : State) : Host.Outcome State Fault Refusal :=
  .next (accessCheck false addr s)

/-- ACCESS_CHECK write (R420). -/
def execAccessCheckWrite (addr : BitVec 12) (s : State) : Host.Outcome State Fault Refusal :=
  .next (accessCheck true addr s)

/-- TRAP_ENTER exception (R430). -/
def execTrapEnterException (s : State) : Host.Outcome State Fault Refusal :=
  .next (trapEnterFromPort false s.port s)

/-- TRAP_ENTER interrupt (R430). -/
def execTrapEnterInterrupt (s : State) : Host.Outcome State Fault Refusal :=
  .next (trapEnterFromPort true s.port s)

/-- XRET MRET (R434). -/
def execXretMret (s : State) : Host.Outcome State Fault Refusal :=
  .next (machineReturn s)

/-- XRET SRET (R435). -/
def execXretSret (s : State) : Host.Outcome State Fault Refusal :=
  .next (supervisorReturn s)

end Sys2Proof.Machine
end

