-- ==== Sys2Proof/Machine/Dispatch.lean ====
section
/-! DEFINITION. One arm per instruction of the opcode table. -/

namespace Sys2Proof.Machine

def exec (i : Instr) (s : State) : Host.Outcome State Fault Refusal :=
  match i with
  | .csrReadMisa => Sys2Proof.Machine.execCsrReadMisa s
  | .csrWriteMisa => Sys2Proof.Machine.execCsrWriteMisa s
  | .csrReadMstatus => Sys2Proof.Machine.execCsrReadMstatus s
  | .csrWriteMstatus => Sys2Proof.Machine.execCsrWriteMstatus s
  | .csrReadMip => Sys2Proof.Machine.execCsrReadMip s
  | .csrWriteMip => Sys2Proof.Machine.execCsrWriteMip s
  | .csrReadMie => Sys2Proof.Machine.execCsrReadMie s
  | .csrWriteMie => Sys2Proof.Machine.execCsrWriteMie s
  | .csrReadMideleg => Sys2Proof.Machine.execCsrReadMideleg s
  | .csrWriteMideleg => Sys2Proof.Machine.execCsrWriteMideleg s
  | .csrReadMedeleg => Sys2Proof.Machine.execCsrReadMedeleg s
  | .csrWriteMedeleg => Sys2Proof.Machine.execCsrWriteMedeleg s
  | .csrReadMtvec => Sys2Proof.Machine.execCsrReadMtvec s
  | .csrWriteMtvec => Sys2Proof.Machine.execCsrWriteMtvec s
  | .csrReadMcounteren => Sys2Proof.Machine.execCsrReadMcounteren s
  | .csrWriteMcounteren => Sys2Proof.Machine.execCsrWriteMcounteren s
  | .csrReadMcountinhibit => Sys2Proof.Machine.execCsrReadMcountinhibit s
  | .csrWriteMcountinhibit => Sys2Proof.Machine.execCsrWriteMcountinhibit s
  | .csrReadMscratch => Sys2Proof.Machine.execCsrReadMscratch s
  | .csrWriteMscratch => Sys2Proof.Machine.execCsrWriteMscratch s
  | .csrReadMepc => Sys2Proof.Machine.execCsrReadMepc s
  | .csrWriteMepc => Sys2Proof.Machine.execCsrWriteMepc s
  | .csrReadMcause => Sys2Proof.Machine.execCsrReadMcause s
  | .csrWriteMcause => Sys2Proof.Machine.execCsrWriteMcause s
  | .csrReadMtval => Sys2Proof.Machine.execCsrReadMtval s
  | .csrWriteMtval => Sys2Proof.Machine.execCsrWriteMtval s
  | .csrReadMvendorid => Sys2Proof.Machine.execCsrReadMvendorid s
  | .csrWriteMvendorid => Sys2Proof.Machine.execCsrWriteMvendorid s
  | .csrReadMarchid => Sys2Proof.Machine.execCsrReadMarchid s
  | .csrWriteMarchid => Sys2Proof.Machine.execCsrWriteMarchid s
  | .csrReadMimpid => Sys2Proof.Machine.execCsrReadMimpid s
  | .csrWriteMimpid => Sys2Proof.Machine.execCsrWriteMimpid s
  | .csrReadMhartid => Sys2Proof.Machine.execCsrReadMhartid s
  | .csrWriteMhartid => Sys2Proof.Machine.execCsrWriteMhartid s
  | .csrReadTselect => Sys2Proof.Machine.execCsrReadTselect s
  | .csrWriteTselect => Sys2Proof.Machine.execCsrWriteTselect s
  | .csrReadMcycle => Sys2Proof.Machine.execCsrReadMcycle s
  | .csrWriteMcycle => Sys2Proof.Machine.execCsrWriteMcycle s
  | .csrReadMinstret => Sys2Proof.Machine.execCsrReadMinstret s
  | .csrWriteMinstret => Sys2Proof.Machine.execCsrWriteMinstret s
  | .csrReadMcycleh => Sys2Proof.Machine.execCsrReadMcycleh s
  | .csrWriteMcycleh => Sys2Proof.Machine.execCsrWriteMcycleh s
  | .csrReadMinstreth => Sys2Proof.Machine.execCsrReadMinstreth s
  | .csrWriteMinstreth => Sys2Proof.Machine.execCsrWriteMinstreth s
  | .csrReadStvec => Sys2Proof.Machine.execCsrReadStvec s
  | .csrWriteStvec => Sys2Proof.Machine.execCsrWriteStvec s
  | .csrReadScounteren => Sys2Proof.Machine.execCsrReadScounteren s
  | .csrWriteScounteren => Sys2Proof.Machine.execCsrWriteScounteren s
  | .csrReadSscratch => Sys2Proof.Machine.execCsrReadSscratch s
  | .csrWriteSscratch => Sys2Proof.Machine.execCsrWriteSscratch s
  | .csrReadSepc => Sys2Proof.Machine.execCsrReadSepc s
  | .csrWriteSepc => Sys2Proof.Machine.execCsrWriteSepc s
  | .csrReadScause => Sys2Proof.Machine.execCsrReadScause s
  | .csrWriteScause => Sys2Proof.Machine.execCsrWriteScause s
  | .csrReadStval => Sys2Proof.Machine.execCsrReadStval s
  | .csrWriteStval => Sys2Proof.Machine.execCsrWriteStval s
  | .csrReadSatp => Sys2Proof.Machine.execCsrReadSatp s
  | .csrWriteSatp => Sys2Proof.Machine.execCsrWriteSatp s
  | .csrReadSstatus => Sys2Proof.Machine.execCsrReadSstatus s
  | .csrWriteSstatus => Sys2Proof.Machine.execCsrWriteSstatus s
  | .csrReadSip => Sys2Proof.Machine.execCsrReadSip s
  | .csrWriteSip => Sys2Proof.Machine.execCsrWriteSip s
  | .csrReadSie => Sys2Proof.Machine.execCsrReadSie s
  | .csrWriteSie => Sys2Proof.Machine.execCsrWriteSie s
  | .csrReadSideleg => Sys2Proof.Machine.execCsrReadSideleg s
  | .csrWriteSideleg => Sys2Proof.Machine.execCsrWriteSideleg s
  | .csrReadSedeleg => Sys2Proof.Machine.execCsrReadSedeleg s
  | .csrWriteSedeleg => Sys2Proof.Machine.execCsrWriteSedeleg s
  | .csrReadUnassigned addr => Sys2Proof.Machine.execCsrReadUnassigned addr s
  | .csrWriteUnassigned addr => Sys2Proof.Machine.execCsrWriteUnassigned addr s
  | .rawRead addr => Sys2Proof.Machine.execRawRead addr s
  | .rawWrite addr => Sys2Proof.Machine.execRawWrite addr s
  | .intReadCurPrivilege => Sys2Proof.Machine.execIntReadCurPrivilege s
  | .intWriteCurPrivilege => Sys2Proof.Machine.execIntWriteCurPrivilege s
  | .intReadCurInst => Sys2Proof.Machine.execIntReadCurInst s
  | .intWriteCurInst => Sys2Proof.Machine.execIntWriteCurInst s
  | .intReadMinstretWritten => Sys2Proof.Machine.execIntReadMinstretWritten s
  | .intWriteMinstretWritten => Sys2Proof.Machine.execIntWriteMinstretWritten s
  | .intReadMtime => Sys2Proof.Machine.execIntReadMtime s
  | .intWriteMtime => Sys2Proof.Machine.execIntWriteMtime s
  | .intReadMcycle => Sys2Proof.Machine.execIntReadMcycle s
  | .intWriteMcycle => Sys2Proof.Machine.execIntWriteMcycle s
  | .intReadMinstret => Sys2Proof.Machine.execIntReadMinstret s
  | .intWriteMinstret => Sys2Proof.Machine.execIntWriteMinstret s
  | .effPrivRead => Sys2Proof.Machine.execEffPrivRead s
  | .effPrivWrite => Sys2Proof.Machine.execEffPrivWrite s
  | .effPrivReadWrite => Sys2Proof.Machine.execEffPrivReadWrite s
  | .effPrivExecute => Sys2Proof.Machine.execEffPrivExecute s
  | .curArch => Sys2Proof.Machine.execCurArch s
  | .tvecAddrM => Sys2Proof.Machine.execTvecAddrM s
  | .tvecAddrS => Sys2Proof.Machine.execTvecAddrS s
  | .pcAlignMask => Sys2Proof.Machine.execPcAlignMask s
  | .haveExtA => Sys2Proof.Machine.execHaveExtA s
  | .haveExtC => Sys2Proof.Machine.execHaveExtC s
  | .haveExtM => Sys2Proof.Machine.execHaveExtM s
  | .haveExtS => Sys2Proof.Machine.execHaveExtS s
  | .haveExtU => Sys2Proof.Machine.execHaveExtU s
  | .haveExtN => Sys2Proof.Machine.execHaveExtN s
  | .haveExtF => Sys2Proof.Machine.execHaveExtF s
  | .haveExtD => Sys2Proof.Machine.execHaveExtD s
  | .retire => Sys2Proof.Machine.execRetire s
  | .accessCheckRead addr => Sys2Proof.Machine.execAccessCheckRead addr s
  | .accessCheckWrite addr => Sys2Proof.Machine.execAccessCheckWrite addr s
  | .trapEnterException => Sys2Proof.Machine.execTrapEnterException s
  | .trapEnterInterrupt => Sys2Proof.Machine.execTrapEnterInterrupt s
  | .xretMret => Sys2Proof.Machine.execXretMret s
  | .xretSret => Sys2Proof.Machine.execXretSret s
  | .reset => Sys2Proof.Machine.execReset s
  | .csrrw rd csr rs1 => Sys2Proof.Machine.execCsrrw rd csr rs1 s
  | .csrrs rd csr rs1 => Sys2Proof.Machine.execCsrrs rd csr rs1 s
  | .csrrc rd csr rs1 => Sys2Proof.Machine.execCsrrc rd csr rs1 s
  | .csrrwi rd csr uimm => Sys2Proof.Machine.execCsrrwi rd csr uimm s
  | .csrrsi rd csr uimm => Sys2Proof.Machine.execCsrrsi rd csr uimm s
  | .csrrci rd csr uimm => Sys2Proof.Machine.execCsrrci rd csr uimm s
  | .mret => Sys2Proof.Machine.execMret s
  | .sret => Sys2Proof.Machine.execSret s
  | .ecall => Sys2Proof.Machine.execEcall s
  | .ebreak => Sys2Proof.Machine.execEbreak s
  | .wfi => Sys2Proof.Machine.execWfi s

end Sys2Proof.Machine
end

