-- ==== Sys2Proof/Machine/Fetch.lean ====
section
/-! DEFINITION. Taking the next entry of `pending`: the inputs it puts on the port, and the word placed there for the
host's question about one table row (log 5). -/

namespace Sys2Proof.Machine

/-- The state in which an entry of `pending` runs: the entry is taken off the list and its inputs stand on the port. -/
def State.load (s : State) (p : Inputs) (rest : List Request) : State := { s with port := p, pending := rest }

/-- The host keeps `cur_inst` current: it writes the bits of the instruction it executes (10_state.md R59,
70_reset_and_hazards.md R630). A block that has faulted refuses that write too (60_exceptions.md R502, log 12). -/
def State.noteInstr (s : State) (word : BitVec 32) : State :=
  { s with curInst := if s.faulted then s.curInst else word.setWidth 64 }

/-- The entry that presents a word of the opcode table on the channel of its row, with the inputs the port now holds. A row
of the table does not use the result of the host's own execution. -/
def tableRequest (w : BitVec 32) (p : Inputs) : Request :=
  match tableChannel w with
  | .command => .command { p with cmd := w }
  | .instruction => .instruction w (.retires 0 0 0) p

/-- The same word as the first entry of `pending`. -/
def placeWord (s : State) (nbits w : Nat) : State :=
  { s with pending := tableRequest (tableWord nbits w) s.port :: s.pending }

end Sys2Proof.Machine
end

