-- ==== Sys2Proof/Machine/Step.lean ====
section
/-! DEFINITION. One step: the first entry of `pending` is taken and run (20_memory.md R108). -/

namespace Sys2Proof.Machine

/-- A command word that decodes runs its instruction; a reserved one is rejected (30_encoding.md R127). A host
instruction of the table runs; any other instruction word is the host's own to execute. With nothing pending nothing
changes. -/
def step (s : State) : Host.Outcome State Fault Refusal :=
  match s.pending with
  | [] => .next s
  | .command p :: rest =>
    match decodeCommand p.cmd with
    | .ok i => exec i (s.load p rest)
    | .error _ => .next (rejectReserved (s.load p rest))
  | .instruction word host p :: rest =>
    match decodeInstruction word with
    | .ok i => exec i ((s.load p rest).noteInstr word)
    | .error _ => .next (outsideInstr word host ((s.load p rest).noteInstr word))
  | .interrupt p :: rest => .next (pollInterrupt (s.load p rest))
  | .exception code tval p :: rest => .next (raiseException code tval (s.load p rest))

/-- The state with a word of the opcode table as what step runs next. -/
def State.withFetchWord (s : State) (nbits w : Nat) : State := placeWord s nbits w

end Sys2Proof.Machine
end

