-- ==== Sys2Proof/Machine/CommandText.lean ====
section
/-! DEFINITION. The textual form of the block's commands (30_encoding.md R140) and the pseudo-commands (R141). Neither is
a rule of the block: the text is how a command is written, a pseudo-command is a list of commands the host issues. -/

namespace Sys2Proof.Machine

/-- The name of a CSR (30_encoding.md R130). -/
def csrName : Csr → String
  | .misa => "misa"
  | .mstatus => "mstatus"
  | .mip => "mip"
  | .mie => "mie"
  | .mideleg => "mideleg"
  | .medeleg => "medeleg"
  | .mtvec => "mtvec"
  | .mcounteren => "mcounteren"
  | .mcountinhibit => "mcountinhibit"
  | .mscratch => "mscratch"
  | .mepc => "mepc"
  | .mcause => "mcause"
  | .mtval => "mtval"
  | .mvendorid => "mvendorid"
  | .marchid => "marchid"
  | .mimpid => "mimpid"
  | .mhartid => "mhartid"
  | .tselect => "tselect"
  | .mcycle => "mcycle"
  | .minstret => "minstret"
  | .mcycleh => "mcycleh"
  | .minstreth => "minstreth"
  | .stvec => "stvec"
  | .scounteren => "scounteren"
  | .sscratch => "sscratch"
  | .sepc => "sepc"
  | .scause => "scause"
  | .stval => "stval"
  | .satp => "satp"
  | .sstatus => "sstatus"
  | .sip => "sip"
  | .sie => "sie"
  | .sideleg => "sideleg"
  | .sedeleg => "sedeleg"

/-- The name of an internal register (30_encoding.md R131). -/
def intRegName : IntReg → String
  | .curPrivilege => "cur_privilege"
  | .curInst => "cur_inst"
  | .minstretWritten => "minstret_written"
  | .mtime => "mtime"
  | .mcycle => "mcycle"
  | .minstret => "minstret"

/-- A hexadecimal literal (30_encoding.md R140). R140 does not say the case of the digits: capitals are a DESIGN CHOICE
(log 26). -/
def hexText (n : Nat) : String := "0x" ++ String.ofList ((Nat.toDigits 16 n).map Char.toUpper)

/-- A CSR operand: its name, or its number where R130 assigns none. -/
def csrText (addr : BitVec 12) : String :=
  match Csr.ofAddr addr with
  | some c => csrName c
  | none => hexText addr.toNat

/-- The operands of a raw write. -/
def maskedText (p : Inputs) : String :=
  ", mask=" ++ hexText p.wmask.toNat ++ ", data=" ++ hexText p.wdata.toNat

/-- The operands of TRAP_ENTER. R140 says that data is a hexadecimal literal with 0x and writes code=7 in its example: the
code with 0x, as the rule says, is a DESIGN CHOICE (log 26). -/
def trapText (p : Inputs) : String :=
  ", code=" ++ hexText p.wdata.toNat ++ ", tval=" ++ hexText p.tval.toNat ++ ", epc=" ++ hexText p.epc.toNat

/-- The text of a block command with its port operands (30_encoding.md R140); a host instruction is no command. -/
def commandText (p : Inputs) : Instr → Option String
  | .csrReadMisa => some ("CSR_READ " ++ csrName .misa)
  | .csrWriteMisa => some ("CSR_WRITE " ++ csrName .misa ++ ", " ++ hexText p.wdata.toNat)
  | .csrReadMstatus => some ("CSR_READ " ++ csrName .mstatus)
  | .csrWriteMstatus => some ("CSR_WRITE " ++ csrName .mstatus ++ ", " ++ hexText p.wdata.toNat)
  | .csrReadMip => some ("CSR_READ " ++ csrName .mip)
  | .csrWriteMip => some ("CSR_WRITE " ++ csrName .mip ++ ", " ++ hexText p.wdata.toNat)
  | .csrReadMie => some ("CSR_READ " ++ csrName .mie)
  | .csrWriteMie => some ("CSR_WRITE " ++ csrName .mie ++ ", " ++ hexText p.wdata.toNat)
  | .csrReadMideleg => some ("CSR_READ " ++ csrName .mideleg)
  | .csrWriteMideleg => some ("CSR_WRITE " ++ csrName .mideleg ++ ", " ++ hexText p.wdata.toNat)
  | .csrReadMedeleg => some ("CSR_READ " ++ csrName .medeleg)
  | .csrWriteMedeleg => some ("CSR_WRITE " ++ csrName .medeleg ++ ", " ++ hexText p.wdata.toNat)
  | .csrReadMtvec => some ("CSR_READ " ++ csrName .mtvec)
  | .csrWriteMtvec => some ("CSR_WRITE " ++ csrName .mtvec ++ ", " ++ hexText p.wdata.toNat)
  | .csrReadMcounteren => some ("CSR_READ " ++ csrName .mcounteren)
  | .csrWriteMcounteren => some ("CSR_WRITE " ++ csrName .mcounteren ++ ", " ++ hexText p.wdata.toNat)
  | .csrReadMcountinhibit => some ("CSR_READ " ++ csrName .mcountinhibit)
  | .csrWriteMcountinhibit => some ("CSR_WRITE " ++ csrName .mcountinhibit ++ ", " ++ hexText p.wdata.toNat)
  | .csrReadMscratch => some ("CSR_READ " ++ csrName .mscratch)
  | .csrWriteMscratch => some ("CSR_WRITE " ++ csrName .mscratch ++ ", " ++ hexText p.wdata.toNat)
  | .csrReadMepc => some ("CSR_READ " ++ csrName .mepc)
  | .csrWriteMepc => some ("CSR_WRITE " ++ csrName .mepc ++ ", " ++ hexText p.wdata.toNat)
  | .csrReadMcause => some ("CSR_READ " ++ csrName .mcause)
  | .csrWriteMcause => some ("CSR_WRITE " ++ csrName .mcause ++ ", " ++ hexText p.wdata.toNat)
  | .csrReadMtval => some ("CSR_READ " ++ csrName .mtval)
  | .csrWriteMtval => some ("CSR_WRITE " ++ csrName .mtval ++ ", " ++ hexText p.wdata.toNat)
  | .csrReadMvendorid => some ("CSR_READ " ++ csrName .mvendorid)
  | .csrWriteMvendorid => some ("CSR_WRITE " ++ csrName .mvendorid ++ ", " ++ hexText p.wdata.toNat)
  | .csrReadMarchid => some ("CSR_READ " ++ csrName .marchid)
  | .csrWriteMarchid => some ("CSR_WRITE " ++ csrName .marchid ++ ", " ++ hexText p.wdata.toNat)
  | .csrReadMimpid => some ("CSR_READ " ++ csrName .mimpid)
  | .csrWriteMimpid => some ("CSR_WRITE " ++ csrName .mimpid ++ ", " ++ hexText p.wdata.toNat)
  | .csrReadMhartid => some ("CSR_READ " ++ csrName .mhartid)
  | .csrWriteMhartid => some ("CSR_WRITE " ++ csrName .mhartid ++ ", " ++ hexText p.wdata.toNat)
  | .csrReadTselect => some ("CSR_READ " ++ csrName .tselect)
  | .csrWriteTselect => some ("CSR_WRITE " ++ csrName .tselect ++ ", " ++ hexText p.wdata.toNat)
  | .csrReadMcycle => some ("CSR_READ " ++ csrName .mcycle)
  | .csrWriteMcycle => some ("CSR_WRITE " ++ csrName .mcycle ++ ", " ++ hexText p.wdata.toNat)
  | .csrReadMinstret => some ("CSR_READ " ++ csrName .minstret)
  | .csrWriteMinstret => some ("CSR_WRITE " ++ csrName .minstret ++ ", " ++ hexText p.wdata.toNat)
  | .csrReadMcycleh => some ("CSR_READ " ++ csrName .mcycleh)
  | .csrWriteMcycleh => some ("CSR_WRITE " ++ csrName .mcycleh ++ ", " ++ hexText p.wdata.toNat)
  | .csrReadMinstreth => some ("CSR_READ " ++ csrName .minstreth)
  | .csrWriteMinstreth => some ("CSR_WRITE " ++ csrName .minstreth ++ ", " ++ hexText p.wdata.toNat)
  | .csrReadStvec => some ("CSR_READ " ++ csrName .stvec)
  | .csrWriteStvec => some ("CSR_WRITE " ++ csrName .stvec ++ ", " ++ hexText p.wdata.toNat)
  | .csrReadScounteren => some ("CSR_READ " ++ csrName .scounteren)
  | .csrWriteScounteren => some ("CSR_WRITE " ++ csrName .scounteren ++ ", " ++ hexText p.wdata.toNat)
  | .csrReadSscratch => some ("CSR_READ " ++ csrName .sscratch)
  | .csrWriteSscratch => some ("CSR_WRITE " ++ csrName .sscratch ++ ", " ++ hexText p.wdata.toNat)
  | .csrReadSepc => some ("CSR_READ " ++ csrName .sepc)
  | .csrWriteSepc => some ("CSR_WRITE " ++ csrName .sepc ++ ", " ++ hexText p.wdata.toNat)
  | .csrReadScause => some ("CSR_READ " ++ csrName .scause)
  | .csrWriteScause => some ("CSR_WRITE " ++ csrName .scause ++ ", " ++ hexText p.wdata.toNat)
  | .csrReadStval => some ("CSR_READ " ++ csrName .stval)
  | .csrWriteStval => some ("CSR_WRITE " ++ csrName .stval ++ ", " ++ hexText p.wdata.toNat)
  | .csrReadSatp => some ("CSR_READ " ++ csrName .satp)
  | .csrWriteSatp => some ("CSR_WRITE " ++ csrName .satp ++ ", " ++ hexText p.wdata.toNat)
  | .csrReadSstatus => some ("CSR_READ " ++ csrName .sstatus)
  | .csrWriteSstatus => some ("CSR_WRITE " ++ csrName .sstatus ++ ", " ++ hexText p.wdata.toNat)
  | .csrReadSip => some ("CSR_READ " ++ csrName .sip)
  | .csrWriteSip => some ("CSR_WRITE " ++ csrName .sip ++ ", " ++ hexText p.wdata.toNat)
  | .csrReadSie => some ("CSR_READ " ++ csrName .sie)
  | .csrWriteSie => some ("CSR_WRITE " ++ csrName .sie ++ ", " ++ hexText p.wdata.toNat)
  | .csrReadSideleg => some ("CSR_READ " ++ csrName .sideleg)
  | .csrWriteSideleg => some ("CSR_WRITE " ++ csrName .sideleg ++ ", " ++ hexText p.wdata.toNat)
  | .csrReadSedeleg => some ("CSR_READ " ++ csrName .sedeleg)
  | .csrWriteSedeleg => some ("CSR_WRITE " ++ csrName .sedeleg ++ ", " ++ hexText p.wdata.toNat)
  | .csrReadUnassigned addr => some ("CSR_READ " ++ csrText addr)
  | .csrWriteUnassigned addr => some ("CSR_WRITE " ++ csrText addr ++ ", " ++ hexText p.wdata.toNat)
  | .rawRead addr => some ("RAW_READ " ++ csrText addr)
  | .rawWrite addr => some ("RAW_WRITE " ++ csrText addr ++ maskedText p)
  | .intReadCurPrivilege => some ("INT_READ " ++ intRegName .curPrivilege)
  | .intWriteCurPrivilege => some ("INT_WRITE " ++ intRegName .curPrivilege ++ ", " ++ hexText p.wdata.toNat)
  | .intReadCurInst => some ("INT_READ " ++ intRegName .curInst)
  | .intWriteCurInst => some ("INT_WRITE " ++ intRegName .curInst ++ ", " ++ hexText p.wdata.toNat)
  | .intReadMinstretWritten => some ("INT_READ " ++ intRegName .minstretWritten)
  | .intWriteMinstretWritten => some ("INT_WRITE " ++ intRegName .minstretWritten ++ ", " ++ hexText p.wdata.toNat)
  | .intReadMtime => some ("INT_READ " ++ intRegName .mtime)
  | .intWriteMtime => some ("INT_WRITE " ++ intRegName .mtime ++ ", " ++ hexText p.wdata.toNat)
  | .intReadMcycle => some ("INT_READ " ++ intRegName .mcycle)
  | .intWriteMcycle => some ("INT_WRITE " ++ intRegName .mcycle ++ ", " ++ hexText p.wdata.toNat)
  | .intReadMinstret => some ("INT_READ " ++ intRegName .minstret)
  | .intWriteMinstret => some ("INT_WRITE " ++ intRegName .minstret ++ ", " ++ hexText p.wdata.toNat)
  | .effPrivRead => some "EFF_PRIV Read"
  | .effPrivWrite => some "EFF_PRIV Write"
  | .effPrivReadWrite => some "EFF_PRIV ReadWrite"
  | .effPrivExecute => some "EFF_PRIV Execute"
  | .curArch => some "CUR_ARCH"
  | .tvecAddrM => some "TVEC_ADDR M"
  | .tvecAddrS => some "TVEC_ADDR S"
  | .pcAlignMask => some "PC_ALIGN_MASK"
  | .haveExtA => some "HAVE_EXT A"
  | .haveExtC => some "HAVE_EXT C"
  | .haveExtM => some "HAVE_EXT M"
  | .haveExtS => some "HAVE_EXT S"
  | .haveExtU => some "HAVE_EXT U"
  | .haveExtN => some "HAVE_EXT N"
  | .haveExtF => some "HAVE_EXT F"
  | .haveExtD => some "HAVE_EXT D"
  | .retire => some "RETIRE"
  | .accessCheckRead addr => some ("ACCESS_CHECK " ++ csrText addr ++ ", read")
  | .accessCheckWrite addr => some ("ACCESS_CHECK " ++ csrText addr ++ ", write")
  | .trapEnterException => some ("TRAP_ENTER exception" ++ trapText p)
  | .trapEnterInterrupt => some ("TRAP_ENTER interrupt" ++ trapText p)
  | .xretMret => some "XRET MRET"
  | .xretSret => some "XRET SRET"
  | .reset => some "RESET"
  | .csrrw _ _ _ | .csrrs _ _ _ | .csrrc _ _ _ | .csrrwi _ _ _ | .csrrsi _ _ _ | .csrrci _ _ _ => none
  | .mret | .sret | .ecall | .ebreak | .wfi => none

/-- SET_FIELD R.F, v (30_encoding.md R141). -/
def setFieldRequest (c : Csr) (F : Field) (v : Word) (p : Inputs) : Request :=
  .command { p with cmd := encode (.rawWrite c.addr), wmask := F.mask, wdata := v <<< F.lo }

/-- GET_FIELD R.F: the raw read whose result the host takes the field from (30_encoding.md R141). -/
def getFieldRequest (c : Csr) (p : Inputs) : Request := .command { p with cmd := encode (.rawRead c.addr) }

/-- The read of CSR_SET and CSR_CLEAR (30_encoding.md R141). -/
def csrReadRequest (c : Csr) (p : Inputs) : Request := .command { p with cmd := encode c.readInstr }

/-- The write of CSR_SET R, v, where the read gave `t` (30_encoding.md R141). -/
def csrSetRequest (c : Csr) (v t : Word) (p : Inputs) : Request :=
  .command { p with cmd := encode c.writeInstr, wdata := t ||| v }

/-- The write of CSR_CLEAR R, v, where the read gave `t` (30_encoding.md R141). -/
def csrClearRequest (c : Csr) (v t : Word) (p : Inputs) : Request :=
  .command { p with cmd := encode c.writeInstr, wdata := t &&& ~~~v }

end Sys2Proof.Machine
end

