-- ==== Sys2Proof/Safety.lean ====
section
/-! DEFINITION. What counts as a legal state: the invariants 10_state.md states for the registers. A step keeps them from
every state that has them, reachable or not. And the host's contract: what 70_reset_and_hazards.md R630 assumes the host
never does, as a check on what it issues. -/

namespace Sys2Proof.Machine

/-- A value of XLEN bits: nothing above bit XLEN-1 (log 4). -/
def Fits (x : Xlen) (v : Word) : Prop := v &&& ~~~x.ones = 0

/-- mstatus is legal: SD is derived (R39), reserved bits are 0 (R37, R38), and SXL and UXL hold RV64 at XLEN=64 (R40, R41). -/
structure MstatusLegal (x : Xlen) (m : Word) : Prop where
  sd : getField m (Mstatus.sd x) = flagWord (isDirty m)
  reserved : m &&& ~~~mstatusDef x = 0
  sxl : getSxl x m = x.arch.code
  uxl : getUxl x m = x.arch.code

/-- misa is legal: MXL and every letter but C, D and F hold their fixed values, the reserved bits are 0 (R35). -/
def MisaLegal (q : Params) (m : Word) : Prop :=
  m &&& ~~~0x2C = setField (q.misaFixed.setWidth 64 &&& ~~~0x2C) (Misa.mxl q.xlen) q.xlen.arch.code

/-- The interrupt and delegation registers hold no reserved and no always-0 bit (R42 to R47). -/
structure InterruptsLegal (s : State) : Prop where
  mip : s.mip &&& ~~~mintDef = 0
  mie : s.mie &&& ~~~mintDef = 0
  mideleg : s.mideleg &&& ~~~midelegMask = 0
  medeleg : s.medeleg &&& ~~~medelegMask = 0

/-- The counter-control registers hold no bit that is always 0 (R52, R53). -/
structure CounterControlLegal (s : State) : Prop where
  mcounteren : s.mcounteren &&& ~~~counterenMask = 0
  scounteren : s.scounteren &&& ~~~counterenMask = 0
  mcountinhibit : s.mcountinhibit &&& ~~~countinhibitMask = 0

/-- The plain XLEN-bit registers of the block hold XLEN bits (R48 to R51, R54, R58, R59). -/
structure BlockFits (s : State) : Prop where
  mtvec : Fits s.params.xlen s.mtvec
  stvec : Fits s.params.xlen s.stvec
  mcause : Fits s.params.xlen s.mcause
  scause : Fits s.params.xlen s.scause
  mepc : Fits s.params.xlen s.mepc
  sepc : Fits s.params.xlen s.sepc
  mtval : Fits s.params.xlen s.mtval
  stval : Fits s.params.xlen s.stval
  mscratch : Fits s.params.xlen s.mscratch
  sscratch : Fits s.params.xlen s.sscratch
  satp : Fits s.params.xlen s.satp
  tselect : Fits s.params.xlen s.tselect
  curInst : Fits s.params.xlen s.curInst

/-- The parameters and the host's registers hold XLEN bits (R8, R32). -/
structure HostFits (s : State) : Prop where
  mvendorid : Fits s.params.xlen s.params.mvendorid
  marchid : Fits s.params.xlen s.params.marchid
  mimpid : Fits s.params.xlen s.params.mimpid
  mhartid : Fits s.params.xlen s.params.mhartid
  pc : Fits s.params.xlen s.pc
  x : ∀ r : BitVec 5, Fits s.params.xlen (readX s r)

/-- A legal state. -/
structure State.Legal (s : State) : Prop where
  mstatus : MstatusLegal s.params.xlen s.mstatus
  misa : MisaLegal s.params s.misa
  interrupts : InterruptsLegal s
  counterControl : CounterControlLegal s
  block : BlockFits s
  host : HostFits s

/-! ### The host's contract (log 27) -/

/-- A bare command the host may send beside the instructions it executes (70_reset_and_hazards.md R630). CSR_WRITE,
RETIRE, TRAP_ENTER and XRET come only with the instruction or the trap they belong to, and RESET only first. A raw write
serves platform state and the host's own bookkeeping: mip, mcycle and mcycleh. cur_privilege is written at boot only. -/
def hostMaySend (boot : Bool) (word : BitVec 32) : Bool :=
  let addr : BitVec 12 := word.extractLsb' 0 12
  match (word.extractLsb' 28 4).toNat with
  | 0x1 | 0xB | 0xD | 0xE | 0xF => false
  | 0x3 => decide (addr ∈ [Csr.mip.addr, Csr.mcycle.addr, Csr.mcycleh.addr])
  | 0x5 => boot || decide (addr ≠ IntReg.curPrivilege.sel)
  | _ => true

/-- An entry the host may issue. -/
def Request.allowed (boot : Bool) : Request → Bool
  | .command p => hostMaySend boot p.cmd
  | .instruction _ _ _ | .interrupt _ | .exception _ _ _ => true

/-- The inputs an entry puts on the port. -/
def Request.inputs : Request → Inputs
  | .command p | .instruction _ _ p | .interrupt p | .exception _ _ p => p

/-- The entry is a bare command. -/
def Request.isCommand : Request → Bool
  | .command _ => true
  | .instruction _ _ _ | .interrupt _ | .exception _ _ _ => false

/-- What is issued after a RESET that comes first. -/
def afterReset : List Request → List Request
  | [] => []
  | r :: rest =>
    match r with
    | .command p => if p.cmd = encode .reset then rest else r :: rest
    | .instruction _ _ _ | .interrupt _ | .exception _ _ _ => r :: rest

/-- A list without RESET: the commands of boot, then the program. -/
def phases (l : List Request) : Bool :=
  (l.takeWhile Request.isCommand).all (Request.allowed true) && (l.dropWhile Request.isCommand).all (Request.allowed false)

/-- The host keeps its contract over a list of entries: RESET at most once and first, then boot and the program, with the
same boot capabilities throughout (70_reset_and_hazards.md R603, R630). -/
def hostContract (rvcBoot fdextBoot : Bool) (l : List Request) : Bool :=
  phases (afterReset l)
    && l.all fun r => r.inputs.caps.rvcBoot == rvcBoot && r.inputs.caps.fdextBoot == fdextBoot

end Sys2Proof.Machine
end

