-- ==== Sys2Proof/Certificates/Slice0/Obligations.lean ====
section
/-! DEFINITION. The statements for the provers. The first part, namespace Sys2Proof.Claims, is their vocabulary: what the
rules of the spec say, written by bit positions and numbers and not through the model's own legalizers, masks and field
codec. A conclusion of the form exec i s = .next t with t written out is also the frame: every field of State it does not
name is unchanged. -/

namespace Sys2Proof.Claims

open Sys2Proof.Machine

/-- The words the rules give for these instructions, under "Encoding". -/
def words (l : List (BitVec 32 × Instr)) : Prop := ∀ wi ∈ l, decodeCommand wi.1 = .ok wi.2

/-- The command word `OP @ SUB @ RSV @ ADDR` with RSV = 0 (30_encoding.md R122). -/
def commandOf (op sub : BitVec 4) (addr : BitVec 12) : BitVec 32 := op ++ sub ++ 0#12 ++ addr

/-- `v[XLEN-1:0]`, zero-extended to 64 bits (00_scope.md R9, R10). -/
def low (x : Xlen) (v : Word) : Word := (v.setWidth x.bits).setWidth 64

/-- `v[31:0]`, zero-extended. -/
def lo32 (v : Word) : Word := (v.extractLsb' 0 32).setWidth 64

/-- `v[63:32]`, zero-extended. -/
def hi32 (v : Word) : Word := (v.extractLsb' 32 32).setWidth 64

/-- `hi[31:0] @ lo[31:0]`. -/
def pair32 (hi lo : Word) : Word := (hi.setWidth 32 : BitVec 32) ++ (lo.setWidth 32 : BitVec 32)

/-- The write data `v = wdata[XLEN-1:0]` (30_encoding.md R126). -/
def data (s : State) : Word := low s.params.xlen s.port.wdata

/-- The write mask `m = wmask[XLEN-1:0]` (30_encoding.md R126). -/
def mask (s : State) : Word := low s.params.xlen s.port.wmask

/-- A truth value as result data. -/
def answer (b : Bool) : Word := if b then 1 else 0

/-- misa.N and misa.U (40_codec_capabilities.md R211). -/
def hasN (s : State) : Bool := s.misa.getLsbD 13
def hasU (s : State) : Bool := s.misa.getLsbD 20
def hasC (s : State) : Bool := s.misa.getLsbD 2

/-- FS or XS of an mstatus value is Dirty: the value SD must have (10_state.md R39). -/
def dirty (m : Word) : Bool := (m.getLsbD 13 && m.getLsbD 14) || (m.getLsbD 15 && m.getLsbD 16)

/-- `pc_alignment_mask()` by its four values (43_resolvers.md R348). -/
def pcMask (x : Xlen) (c : Bool) : Word :=
  match x, c with
  | .rv32, true => 0xFFFFFFFE
  | .rv32, false => 0xFFFFFFFC
  | .rv64, true => 0xFFFFFFFFFFFFFFFE
  | .rv64, false => 0xFFFFFFFFFFFFFFFC

/-- The Architecture code of the current privilege: misa.MXL, SXL or UXL (43_resolvers.md R343, 10_state.md R40). -/
def archBits (s : State) : BitVec 2 :=
  match s.params.xlen, s.curPrivilege with
  | .rv32, .machine => s.misa.extractLsb' 30 2
  | .rv32, _ => 0b01
  | .rv64, .machine => s.misa.extractLsb' 62 2
  | .rv64, .supervisor => s.mstatus.extractLsb' 34 2
  | .rv64, .user => s.mstatus.extractLsb' 32 2

/-- The code of XLEN: RV32 or RV64. -/
def xlenCode : Xlen → Word
  | .rv32 => 1
  | .rv64 => 2

/-- The assigned CSR numbers (30_encoding.md R130). -/
def assignedNumbers (x : Xlen) : List (BitVec 12) :=
  [0x100, 0x102, 0x103, 0x104, 0x105, 0x106, 0x140, 0x141, 0x142, 0x143, 0x144, 0x180,
   0x300, 0x301, 0x302, 0x303, 0x304, 0x305, 0x306, 0x320, 0x340, 0x341, 0x342, 0x343, 0x344,
   0x7A0, 0xB00, 0xB02, 0xF11, 0xF12, 0xF13, 0xF14] ++
  (match x with
    | .rv32 => ([0xB80, 0xB82] : List (BitVec 12))
    | .rv64 => [])

/-- The views (30_encoding.md R132). -/
def viewNumbers : List (BitVec 12) := [0x100, 0x102, 0x103, 0x104, 0x144]

/-- The informational registers (41_machine_csrs.md R231). -/
def readOnlyNumbers : List (BitVec 12) := [0xF11, 0xF12, 0xF13, 0xF14]

/-- A privilege level as ACCESS_CHECK compares it: User 0, Supervisor 1, Machine 3 (45_host_ports.md R420). -/
def levelOf : Privilege → Nat
  | .user => 0
  | .supervisor => 1
  | .machine => 3

/-- The answer of ACCESS_CHECK (45_host_ports.md R420). -/
def mayAccess (w : Bool) (addr : BitVec 12) (s : State) : Bool :=
  decide (addr ∈ assignedNumbers s.params.xlen)
    && decide ((addr.extractLsb' 8 2).toNat ≤ levelOf s.curPrivilege)
    && !(w && decide ((addr.extractLsb' 10 2).toNat = 3))
    && !(decide ((addr.extractLsb' 8 2).toNat = 1) && !s.misa.getLsbD 18)
    && !(decide (addr = 0x180) && decide (s.curPrivilege = .supervisor) && s.mstatus.getLsbD 20)

/-- The command words R127 reserves. -/
def reserved (w : BitVec 32) : Bool :=
  let op := (w.extractLsb' 28 4).toNat
  let sub := (w.extractLsb' 24 4).toNat
  let addr := (w.extractLsb' 0 12).toNat
  decide (w.extractLsb' 12 12 ≠ 0)
    || (decide (op ∈ [0x0, 0x1, 0x2, 0x3, 0x4, 0x5, 0x7, 0x9, 0xB, 0xF]) && decide (sub ≠ 0))
    || (decide (op = 0x6) && decide (sub ≥ 4))
    || (decide (op ∈ [0x8, 0xC, 0xD, 0xE]) && decide (sub ≥ 2))
    || (decide (op = 0xA) && decide (sub ≥ 8))
    || (decide (op ∈ [0x6, 0x7, 0x8, 0x9, 0xA, 0xB, 0xD, 0xE, 0xF]) && decide (addr ≠ 0))
    || (decide (op ∈ [0x4, 0x5]) && decide (addr > 0x005))

/-- Bit n of misa after a CSR write (41_machine_csrs.md R233). -/
def misaBitAfterWrite (s : State) (n : Nat) : Bool :=
  let v := s.port.wdata
  let caps := s.port.caps
  let aligned := !s.port.nextPc.getLsbD 0 && !s.port.nextPc.getLsbD 1
  if n = 2 then
    if caps.writableMisa && caps.rvcBoot && (v.getLsbD 2 || (aligned && !caps.vetoDisableC)) then v.getLsbD 2
    else s.misa.getLsbD 2
  else if n = 3 ∨ n = 5 then
    if caps.writableMisa && caps.fdextBoot && !(v.getLsbD 3 && !v.getLsbD 5) then v.getLsbD n else s.misa.getLsbD n
  else s.misa.getLsbD n

/-- Bit n of mstatus after a CSR write (41_machine_csrs.md R235, 10_state.md R38). -/
def mstatusBitAfterWrite (s : State) (n : Nat) : Bool :=
  let v := s.port.wdata
  if n = s.params.xlen.bits - 1 then v.getLsbD 13 && v.getLsbD 14
  else if n ∈ [0, 4] then v.getLsbD n && hasN s
  else if n = 17 then v.getLsbD 17 && hasU s
  else if n ∈ [1, 3, 5, 7, 8, 11, 12, 13, 14, 18, 19, 20, 21, 22] then v.getLsbD n
  else if n ∈ [32, 33, 34, 35] then decide (s.params.xlen = .rv64) && s.mstatus.getLsbD n
  else false

/-- Bit n of mstatus after a CSR write of sstatus (42_views.md R302). -/
def mstatusBitAfterSstatus (s : State) (n : Nat) : Bool :=
  let v := s.port.wdata
  if n = s.params.xlen.bits - 1 then (v.getLsbD 13 && v.getLsbD 14) || (v.getLsbD 15 && v.getLsbD 16)
  else if n ∈ [0, 1, 4, 5, 8, 13, 14, 15, 16, 18, 19] then v.getLsbD n
  else s.mstatus.getLsbD n

/-- Bit n of mstatus after a raw write (45_host_ports.md R401, R403). -/
def mstatusBitAfterRaw (s : State) (n : Nat) : Bool :=
  let merged := fun k => if s.port.wmask.getLsbD k then s.port.wdata.getLsbD k else s.mstatus.getLsbD k
  if n = s.params.xlen.bits - 1 then (merged 13 && merged 14) || (merged 15 && merged 16)
  else if n ∈ [0, 1, 3, 4, 5, 7, 8, 11, 12, 13, 14, 15, 16, 17, 18, 19, 20, 21, 22] then merged n
  else s.mstatus.getLsbD n

/-- The 2-bit Privilege code, by its bits (00_scope.md R12). -/
def codeBit (p : Privilege) (k : Nat) : Bool :=
  match p with
  | .user => false
  | .supervisor => decide (k = 0)
  | .machine => decide (k ≤ 1)

/-- Bit n of mstatus after a trap into Machine level (45_host_ports.md R431). -/
def mstatusBitAfterMachineTrap (s : State) (n : Nat) : Bool :=
  if n = s.params.xlen.bits - 1 then dirty s.mstatus
  else if n = 7 then s.mstatus.getLsbD 3
  else if n = 3 then false
  else if n = 11 then codeBit s.curPrivilege 0
  else if n = 12 then codeBit s.curPrivilege 1
  else s.mstatus.getLsbD n

/-- Bit n of mstatus after a trap into Supervisor level (45_host_ports.md R432). -/
def mstatusBitAfterSupervisorTrap (s : State) (n : Nat) : Bool :=
  if n = s.params.xlen.bits - 1 then dirty s.mstatus
  else if n = 5 then s.mstatus.getLsbD 1
  else if n = 1 then false
  else if n = 8 then decide (s.curPrivilege ≠ .user)
  else s.mstatus.getLsbD n

/-- Bit n of mstatus after MRET (45_host_ports.md R434). -/
def mstatusBitAfterMret (s : State) (n : Nat) : Bool :=
  if n = s.params.xlen.bits - 1 then dirty s.mstatus
  else if n = 3 then s.mstatus.getLsbD 7
  else if n = 7 then true
  else if n ∈ [11, 12] then !hasU s
  else s.mstatus.getLsbD n

/-- Bit n of mstatus after SRET (45_host_ports.md R435). -/
def mstatusBitAfterSret (s : State) (n : Nat) : Bool :=
  if n = s.params.xlen.bits - 1 then dirty s.mstatus
  else if n = 1 then s.mstatus.getLsbD 5
  else if n = 5 then true
  else if n = 8 then false
  else s.mstatus.getLsbD n

/-- Bit n of mstatus after RESET (10_state.md R41). -/
def mstatusBitAfterReset (s : State) (n : Nat) : Bool :=
  let d := s.port.draw.mstatus
  if n = s.params.xlen.bits - 1 then d.getLsbD 13 && d.getLsbD 14
  else if n ∈ [0, 4] then d.getLsbD n && s.params.misaFixed.getLsbD 13
  else if n ∈ [1, 5, 7, 8, 11, 12, 13, 14, 18, 19, 20, 21, 22] then d.getLsbD n
  else if n ∈ [33, 35] then decide (s.params.xlen = .rv64)
  else false

/-- Bit n of misa after RESET (10_state.md R36). -/
def misaBitAfterReset (s : State) (n : Nat) : Bool :=
  if n = 2 then s.port.caps.rvcBoot
  else if n ∈ [3, 5] then s.port.caps.fdextBoot
  else if n < 26 then s.params.misaFixed.getLsbD n
  else match s.params.xlen with
    | .rv32 => decide (n = 30)
    | .rv64 => decide (n = 63)

/-- A register drawn under the constraint "any value within `m`" (70_reset_and_hazards.md R601): it holds no other bit, and
a draw that respects the constraint is taken as it is. -/
def DrawnWithin {w : Nat} (m d t : BitVec w) : Prop := t &&& ~~~m = 0 ∧ (d &&& ~~~m = 0 → t = d)

/-- The trap-vector address (43_resolvers.md R345). -/
def target (x : Xlen) (tvec cause : Word) : Option Word :=
  let base : Word := (tvec.extractLsb' 2 62) ++ (0#2)
  let code : Word := (cause.setWidth (x.bits - 1)).setWidth 64
  match (tvec.extractLsb' 0 2).toNat with
  | 0 => some base
  | 1 => some (if cause.getLsbD (x.bits - 1) then low x (base + 4 * code) else base)
  | _ => none

/-- `(i << (XLEN-1)) | c` (45_host_ports.md R430). -/
def causeOf (x : Xlen) (interrupt : Bool) (c : Word) : Word :=
  if interrupt then c ||| (1 <<< (x.bits - 1)) else c

/-- TRAP_ENTER, by its SUB. -/
def trapInstr (interrupt : Bool) : Instr := if interrupt then .trapEnterInterrupt else .trapEnterException

/-- The delegation bit of the cause code on the port (45_host_ports.md R430). -/
def delegated (interrupt : Bool) (s : State) : Bool :=
  decide ((data s).toNat < s.params.xlen.bits)
    && (if interrupt then s.mideleg else s.medeleg).getLsbD (data s).toNat

/-- The trap of TRAP_ENTER goes to Supervisor level (45_host_ports.md R430). -/
def goesToSupervisor (interrupt : Bool) (s : State) : Bool :=
  decide (s.curPrivilege ≠ .machine) && delegated interrupt s

/-- The next instruction of the host, `next_pc` (70_reset_and_hazards.md R612). -/
def nextPc (s : State) : Word := low s.params.xlen (s.pc + 4)

/-- A general register of the host: x0 reads 0. -/
def reg (s : State) (r : BitVec 5) : Word := if r = 0 then 0 else s.x.get r.toFin

/-- The general registers after a write of x[rd]: x0 discards it. -/
def regsAfter (s : State) (rd : BitVec 5) (v : Word) : Vector Word 32 :=
  if rd = 0 then s.x else s.x.set rd.toNat v rd.isLt

/-- The state in which the host executes an instruction word: the entry is taken off the list, its inputs stand on the port,
and cur_inst holds the word, which a halted block refuses (log 5, log 12). -/
def fetched (s : State) (word : BitVec 32) (p : Inputs) (rest : List Request) : State :=
  { s with port := p, pending := rest, curInst := if s.faulted then s.curInst else word.setWidth 64 }

/-- The word is SFENCE.VMA, by its fields (log 19). -/
def sfenceWord (w : BitVec 32) : Bool :=
  decide (w.extractLsb' 0 7 = 0b1110011) && decide (w.extractLsb' 7 5 = 0) && decide (w.extractLsb' 12 3 = 0)
    && decide (w.extractLsb' 25 7 = 0b0001001)

/-- The port as the host drives it for one CSR_WRITE of an instruction: data, and `next_pc`. -/
def driven (s : State) (v : Word) : State :=
  { s with port := { s.port with wdata := v, nextPc := nextPc s } }

/-- The port as the host drives it for TRAP_ENTER at its pc. -/
def drivenTrap (s : State) (code tval : Word) : State :=
  { s with port := { s.port with wdata := code, tval := tval, epc := s.pc } }

/-- The state after RETIRE and the move of the pc (44_counters.md R371, 45_host_ports.md R451). -/
def retiredAt (u : State) (pc : Word) : State :=
  { u with
    minstret := if u.minstretWritten then u.minstret else u.minstret + 1
    minstretWritten := false
    out := .ok none
    pc := pc }

/-- The state of the host after a TRAP_ENTER that left the block in `u`: pc is the address it returned, if it returned one. -/
def trapped (u s : State) : State :=
  match u.out with
  | .ok (some a) => { u with port := s.port, pc := a }
  | _ => { u with port := s.port }

/-- The trap value the host records for IllegalInstr (60_exceptions.md R510). -/
def illegalTval (s : State) (word : BitVec 32) : Word := if s.params.illegalTvalBits then word.setWidth 64 else 0

/-- The commands that change minstret or its flag (44_counters.md R372). -/
def touchesInstret : Instr → Bool
  | .csrWriteMinstret | .csrWriteMinstreth | .intWriteMinstretWritten | .intWriteMinstret | .reset | .retire => true
  | .rawWrite addr => decide (addr ∈ [0xB02, 0xB82])
  | _ => false

/-- The commands that set the flag (44_counters.md R372). -/
def setsInstretFlag : Instr → Bool
  | .csrWriteMinstret | .csrWriteMinstreth | .intWriteMinstretWritten => true
  | _ => false

/-- The commands that change mcycle (44_counters.md R373). -/
def touchesMcycle : Instr → Bool
  | .csrWriteMcycle | .csrWriteMcycleh | .intWriteMcycle | .reset => true
  | .rawWrite addr => decide (addr ∈ [0xB00, 0xB80])
  | _ => false

/-- The commands that change mtime (44_counters.md R373). -/
def touchesMtime : Instr → Bool
  | .intWriteMtime | .reset => true
  | _ => false

/-- The commands that change cur_privilege (60_exceptions.md R540). -/
def touchesPrivilege : Instr → Bool
  | .trapEnterException | .trapEnterInterrupt | .xretMret | .xretSret | .intWriteCurPrivilege | .reset => true
  | _ => false

/-- The commands that write mstatus (10_state.md R39, R601). -/
def writesMstatus : Instr → Bool
  | .csrWriteMstatus | .csrWriteSstatus | .trapEnterException | .trapEnterInterrupt | .xretMret | .xretSret | .reset => true
  | .rawWrite addr => decide (addr = 0x300)
  | _ => false

/-- The resolver commands and extension queries (43_resolvers.md R350). -/
def queries : List Instr :=
  [.effPrivRead, .effPrivWrite, .effPrivReadWrite, .effPrivExecute, .curArch, .tvecAddrM, .tvecAddrS, .pcAlignMask,
   .haveExtA, .haveExtC, .haveExtM, .haveExtS, .haveExtU, .haveExtN, .haveExtF, .haveExtD]

/-- The host's test for taking an interrupt (60_exceptions.md R520): the mask of the interrupts it chooses among. -/
def dueMask (s : State) : Word :=
  let pend := s.mip &&& s.mie
  let mOk : Word := if s.curPrivilege ≠ .machine ∨ s.mstatus.getLsbD 3 = true then pend &&& ~~~s.mideleg else 0
  let sOk : Word :=
    if s.curPrivilege = .user ∨ (s.curPrivilege = .supervisor ∧ s.mstatus.getLsbD 1 = true) then pend &&& s.mideleg else 0
  if mOk ≠ 0 then mOk else sOk

/-- Interrupt n is the one the host takes: it is open, and none before it in the priority order is
(60_exceptions.md R520: MEI, MSI, MTI, SEI, SSI, STI, UEI, USI, UTI). -/
def Due (s : State) (n : Nat) : Prop :=
  ∃ before after, [11, 3, 7, 9, 1, 5, 8, 0, 4] = before ++ n :: after ∧
    (dueMask s).getLsbD n = true ∧ ∀ m ∈ before, (dueMask s).getLsbD m = false

end Sys2Proof.Claims

open Sys2Proof Sys2Proof.Machine Sys2Proof.Claims

/-! ### Encoding and the step -/

/-- R122 to R125, R130, R131, R445 to R451: the decoder of an instruction's channel reads its word back, every operand at
every value. -/
def Obligations.DecodeInvertsEncode : Prop :=
  ∀ i : Instr, i.wellFormed = true → decodeOn i.channel (encode i) = .ok i

/-- The other direction: a word that decodes is the word of what it decodes to, so each word has one meaning. -/
def Obligations.DecodedWordHasOneMeaning : Prop :=
  ∀ (c : Channel) (w : BitVec 32) (i : Instr),
    decodeOn c w = .ok i → encode i = w ∧ i.wellFormed = true ∧ i.channel = c

/-- Words written out from the encodings of R123, R130, R131 and R445 to R451. -/
def Obligations.SampleWordsDecode : Prop :=
  decodeCommand 0x00000301 = .ok .csrReadMisa ∧ decodeCommand 0x10000B82 = .ok .csrWriteMinstreth ∧
  decodeCommand 0x00000144 = .ok .csrReadSip ∧ decodeCommand 0x30000344 = .ok (.rawWrite 0x344) ∧
  decodeCommand 0x50000003 = .ok .intWriteMtime ∧ decodeCommand 0x62000000 = .ok .effPrivReadWrite ∧
  decodeCommand 0xA7000000 = .ok .haveExtD ∧ decodeCommand 0xC1000180 = .ok (.accessCheckWrite 0x180) ∧
  decodeCommand 0xE1000000 = .ok .xretSret ∧ decodeCommand 0x00000C00 = .ok (.csrReadUnassigned 0xC00) ∧
  decodeInstruction 0x34029073 = .ok (.csrrw 0 0x340 5) ∧ decodeInstruction 0x30047073 = .ok (.csrrci 0 0x300 8) ∧
  decodeInstruction 0x00000073 = .ok .ecall ∧ decodeCommand 0x00000073 = .ok (.csrReadUnassigned 0x073)

/-- R127: a reserved word is rejected with ReservedEncoding and changes nothing; every other word is a command, and a CSR
or raw access to a number R130 does not assign gives NoSuchCsr instead, the custom ranges included. -/
def Obligations.ReservedWordsRejected : Prop :=
  ∀ (s : State) (p : Inputs) (rest : List Request), s.pending = .command p :: rest → s.faulted = false →
    (reserved p.cmd = true →
      step s = .next { s with port := p, pending := rest, out := .rejected .reservedEncoding }) ∧
    (reserved p.cmd = false → ∃ i, decodeCommand p.cmd = .ok i) ∧
    (reserved p.cmd = false → (p.cmd.extractLsb' 28 4).toNat < 4 →
      p.cmd.extractLsb' 0 12 ∉ assignedNumbers s.params.xlen →
      step s = .next { s with port := p, pending := rest, out := .rejected .noSuchCsr })

/-- When the first pending word decodes, step is exec of that instruction with the entry's inputs on the port and the entry
taken off the list; for an instruction word cur_inst holds it. R108 and R120 say that commands come one at a time with their
inputs. That a step takes the first entry of State.pending is log 5 (DESIGN CHOICE), that a whole host instruction is one
step is log 8 (DEDUCED), and when cur_inst is written is log 12 (DEDUCED from R630). -/
def Obligations.StepRunsDecodedInstruction : Prop :=
  ∀ (s : State) (p : Inputs) (rest : List Request) (i : Instr),
    (s.pending = .command p :: rest → decodeCommand p.cmd = .ok i →
      step s = exec i { s with port := p, pending := rest }) ∧
    (∀ word host, s.pending = .instruction word host p :: rest → decodeInstruction word = .ok i →
      step s = exec i (fetched s word p rest))

/-- The entries that run no instruction of the table. With nothing pending nothing changes (log 21). An instruction word
outside the table is the host's own (log 19): on a running block a refused SFENCE.VMA (R436) takes IllegalInstr; any other
word, a fence included, retires and leaves the rest of the block (R107, R370), or takes the exception the host raises (R510,
R512). An exception entry is TRAP_ENTER at the pc (log 15). A halted block answers Halted (log 11). -/
def Obligations.StepRunsOtherEntries : Prop :=
  (∀ s : State, s.pending = [] → step s = .next s) ∧
  (∀ (s : State) (word : BitVec 32) (host : HostResult) (p : Inputs) (rest : List Request) (e : DecodeError),
    s.pending = .instruction word host p :: rest → decodeInstruction word = .error e →
    let u := fetched s word p rest
    let refused := sfenceWord word = true ∧ s.curPrivilege = .supervisor ∧ s.mstatus.getLsbD 20 = true
    (s.faulted = true → step s = .next { u with out := .fault .halted }) ∧
    (s.faulted = false → refused → low s.params.xlen s.pc = s.pc →
      ∃ t, exec .trapEnterException (drivenTrap u 2 (illegalTval s word)) = .next t ∧ step s = .next (trapped t u)) ∧
    (s.faulted = false → ¬ refused → ∀ rd v a, host = .retires rd v a →
      step s = .next (retiredAt { u with x := regsAfter s rd (low s.params.xlen v) } (low s.params.xlen a))) ∧
    (s.faulted = false → ¬ refused → ∀ code tval, host = .raises code tval → low s.params.xlen s.pc = s.pc →
      ∃ t, exec .trapEnterException (drivenTrap u code tval) = .next t ∧ step s = .next (trapped t u))) ∧
  (∀ (s : State) (code tval : Word) (p : Inputs) (rest : List Request),
    s.pending = .exception code tval p :: rest → low s.params.xlen s.pc = s.pc →
    ∃ u, exec .trapEnterException (drivenTrap { s with port := p, pending := rest } code tval) = .next u ∧
      step s = .next (trapped u { s with port := p, pending := rest }))

/-- R502: once the block has faulted, every command and every instruction meets Fault(Halted), RESET included, and changes
nothing. -/
def Obligations.HaltedBlockAnswersHalted : Prop :=
  ∀ (i : Instr) (s : State), i.wellFormed = true → s.faulted = true →
    exec i s = .next { s with out := .fault .halted }

/-- Every instruction of the table answers in one step, from every state, and leaves the parameters, the port and what is
pending as they are. For the commands of the block this is R500 and R620. For the eleven host instructions, that one step
runs all their commands and leaves the port as before is log 8 (DEDUCED), and that they end on a faulted block is log 11
(DEDUCED). -/
def Obligations.EveryInstructionAnswers : Prop :=
  ∀ (i : Instr) (s : State), i.wellFormed = true →
    ∃ t, exec i s = .next t ∧ t.params = s.params ∧ t.port = s.port ∧ t.pending = s.pending

/-! ### CSR reads and writes -/

/-- CSR_READ of the registers that read as they are stored. -/
def Obligations.StoredRegistersRead : Prop :=
  ∀ s : State, s.faulted = false →
    exec .csrReadMisa s = .next { s with out := .ok (some s.misa) } ∧
    exec .csrReadMstatus s = .next { s with out := .ok (some s.mstatus) } ∧
    exec .csrReadMip s = .next { s with out := .ok (some s.mip) } ∧
    exec .csrReadMie s = .next { s with out := .ok (some s.mie) } ∧
    exec .csrReadMideleg s = .next { s with out := .ok (some s.mideleg) } ∧
    exec .csrReadMedeleg s = .next { s with out := .ok (some s.medeleg) } ∧
    exec .csrReadMtvec s = .next { s with out := .ok (some s.mtvec) } ∧
    exec .csrReadMcounteren s = .next { s with out := .ok (some (s.mcounteren.setWidth 64)) } ∧
    exec .csrReadMcountinhibit s = .next { s with out := .ok (some (s.mcountinhibit.setWidth 64)) } ∧
    exec .csrReadMscratch s = .next { s with out := .ok (some s.mscratch) } ∧
    exec .csrReadMcause s = .next { s with out := .ok (some s.mcause) } ∧
    exec .csrReadMtval s = .next { s with out := .ok (some s.mtval) } ∧
    exec .csrReadTselect s = .next { s with out := .ok (some s.tselect) } ∧
    exec .csrReadStvec s = .next { s with out := .ok (some s.stvec) } ∧
    exec .csrReadScounteren s = .next { s with out := .ok (some (s.scounteren.setWidth 64)) } ∧
    exec .csrReadSscratch s = .next { s with out := .ok (some s.sscratch) } ∧
    exec .csrReadScause s = .next { s with out := .ok (some s.scause) } ∧
    exec .csrReadStval s = .next { s with out := .ok (some s.stval) } ∧
    exec .csrReadSatp s = .next { s with out := .ok (some s.satp) }

/-- R258 to R265: the informational registers read as the parameters and refuse every write. -/
def Obligations.InformationalRegisters : Prop :=
  words [(0x00000F11, .csrReadMvendorid), (0x00000F12, .csrReadMarchid), (0x00000F13, .csrReadMimpid),
    (0x00000F14, .csrReadMhartid), (0x10000F11, .csrWriteMvendorid), (0x10000F12, .csrWriteMarchid),
    (0x10000F13, .csrWriteMimpid), (0x10000F14, .csrWriteMhartid)] ∧
  ∀ s : State, s.faulted = false →
    exec .csrReadMvendorid s = .next { s with out := .ok (some s.params.mvendorid) } ∧
    exec .csrReadMarchid s = .next { s with out := .ok (some s.params.marchid) } ∧
    exec .csrReadMimpid s = .next { s with out := .ok (some s.params.mimpid) } ∧
    exec .csrReadMhartid s = .next { s with out := .ok (some s.params.mhartid) } ∧
    exec .csrWriteMvendorid s = .next { s with out := .rejected .readOnly } ∧
    exec .csrWriteMarchid s = .next { s with out := .rejected .readOnly } ∧
    exec .csrWriteMimpid s = .next { s with out := .rejected .readOnly } ∧
    exec .csrWriteMhartid s = .next { s with out := .rejected .readOnly }

/-- R252, R253, R282, R283: xepc is masked when read and legalized when written, bit by bit. -/
def Obligations.ExceptionPcReadAndWritten : Prop :=
  words [(0x00000341, .csrReadMepc), (0x00000141, .csrReadSepc), (0x10000341, .csrWriteMepc),
    (0x10000141, .csrWriteSepc)] ∧
  ∀ s : State, s.faulted = false →
    exec .csrReadMepc s = .next { s with out := .ok (some (s.mepc &&& pcMask s.params.xlen (hasC s))) } ∧
    exec .csrReadSepc s = .next { s with out := .ok (some (s.sepc &&& pcMask s.params.xlen (hasC s))) } ∧
    ∃ v : Word,
      (∀ n < 64, v.getLsbD n =
        (decide (n < s.params.xlen.bits) && decide (n ≠ 0)
          && (decide (n ≠ 1) || hasC s || (s.port.caps.writableMisa && s.port.caps.rvcBoot))
          && s.port.wdata.getLsbD n)) ∧
      exec .csrWriteMepc s = .next { s with mepc := v, out := .ok none } ∧
      exec .csrWriteSepc s = .next { s with sepc := v, out := .ok none }

/-- R268 to R275: the counters move whole at XLEN=64 and by halves at XLEN=32, where alone the upper halves exist; an
explicit write of minstret sets minstret_written. -/
def Obligations.CountersReadAndWritten : Prop :=
  words [(0x00000B00, .csrReadMcycle), (0x00000B02, .csrReadMinstret), (0x00000B80, .csrReadMcycleh),
    (0x00000B82, .csrReadMinstreth), (0x10000B00, .csrWriteMcycle), (0x10000B02, .csrWriteMinstret),
    (0x10000B80, .csrWriteMcycleh), (0x10000B82, .csrWriteMinstreth)] ∧
  ∀ s : State, s.faulted = false →
    (s.params.xlen = .rv64 →
      exec .csrReadMcycle s = .next { s with out := .ok (some s.mcycle) } ∧
      exec .csrReadMinstret s = .next { s with out := .ok (some s.minstret) } ∧
      exec .csrWriteMcycle s = .next { s with mcycle := s.port.wdata, out := .ok none } ∧
      exec .csrWriteMinstret s =
        .next { s with minstret := s.port.wdata, minstretWritten := true, out := .ok none } ∧
      exec .csrReadMcycleh s = .next { s with out := .rejected .noSuchCsr } ∧
      exec .csrWriteMcycleh s = .next { s with out := .rejected .noSuchCsr } ∧
      exec .csrReadMinstreth s = .next { s with out := .rejected .noSuchCsr } ∧
      exec .csrWriteMinstreth s = .next { s with out := .rejected .noSuchCsr }) ∧
    (s.params.xlen = .rv32 →
      exec .csrReadMcycle s = .next { s with out := .ok (some (lo32 s.mcycle)) } ∧
      exec .csrReadMinstret s = .next { s with out := .ok (some (lo32 s.minstret)) } ∧
      exec .csrReadMcycleh s = .next { s with out := .ok (some (hi32 s.mcycle)) } ∧
      exec .csrReadMinstreth s = .next { s with out := .ok (some (hi32 s.minstret)) } ∧
      exec .csrWriteMcycle s =
        .next { s with mcycle := pair32 (hi32 s.mcycle) s.port.wdata, out := .ok none } ∧
      exec .csrWriteMcycleh s =
        .next { s with mcycle := pair32 s.port.wdata s.mcycle, out := .ok none } ∧
      exec .csrWriteMinstret s =
        .next { s with
          minstret := pair32 (hi32 s.minstret) s.port.wdata, minstretWritten := true, out := .ok none } ∧
      exec .csrWriteMinstreth s =
        .next { s with
          minstret := pair32 s.port.wdata s.minstret, minstretWritten := true, out := .ok none })

/-- R301, R303, R305, R307, R309: what a read of each view shows. -/
def Obligations.ViewsRead : Prop :=
  words [(0x00000100, .csrReadSstatus), (0x00000144, .csrReadSip), (0x00000104, .csrReadSie),
    (0x00000103, .csrReadSideleg), (0x00000102, .csrReadSedeleg)] ∧
  ∀ s : State, s.faulted = false →
    (s.params.xlen = .rv32 →
      exec .csrReadSstatus s = .next { s with out := .ok (some (s.mstatus &&& 0x800DE133)) }) ∧
    (s.params.xlen = .rv64 →
      exec .csrReadSstatus s = .next { s with out := .ok (some (s.mstatus &&& 0x80000003000DE133)) }) ∧
    exec .csrReadSip s = .next { s with out := .ok (some (s.mip &&& s.mideleg &&& 0x333)) } ∧
    exec .csrReadSie s = .next { s with out := .ok (some (s.mie &&& s.mideleg &&& 0x333)) } ∧
    exec .csrReadSideleg s = .next { s with out := .ok (some (s.mideleg &&& 0x333)) } ∧
    exec .csrReadSedeleg s = .next { s with out := .ok (some (s.medeleg &&& 0x1FF)) }

/-- R290: a CSR number no register has is rejected with NoSuchCsr, read or written, and so are the upper halves of the
counters at XLEN=64. -/
def Obligations.UnassignedNumbersRejected : Prop :=
  (∀ addr, addr ∉ assignedNumbers .rv32 →
      decodeCommand (commandOf 0x0 0 addr) = .ok (.csrReadUnassigned addr) ∧
      decodeCommand (commandOf 0x1 0 addr) = .ok (.csrWriteUnassigned addr)) ∧
  ∀ s : State, s.faulted = false →
    (∀ addr, addr ∉ assignedNumbers .rv32 →
      exec (.csrReadUnassigned addr) s = .next { s with out := .rejected .noSuchCsr } ∧
      exec (.csrWriteUnassigned addr) s = .next { s with out := .rejected .noSuchCsr }) ∧
    (s.params.xlen = .rv64 → ∀ i ∈ [Instr.csrReadMcycleh, .csrWriteMcycleh, .csrReadMinstreth, .csrWriteMinstreth],
      exec i s = .next { s with out := .rejected .noSuchCsr })

/-- R233: the misa a CSR write leaves, bit by bit: only C, F and D can change, each under its condition. -/
def Obligations.MisaWrite : Prop :=
  words [(0x10000301, .csrWriteMisa)] ∧
  ∀ s : State, s.faulted = false →
    ∃ m : Word, exec .csrWriteMisa s = .next { s with misa := m, out := .ok none } ∧
      ∀ n < 64, m.getLsbD n = misaBitAfterWrite s n

/-- R235: the mstatus a CSR write leaves, bit by bit. -/
def Obligations.MstatusWrite : Prop :=
  words [(0x10000300, .csrWriteMstatus)] ∧
  ∀ s : State, s.faulted = false →
    ∃ m : Word, exec .csrWriteMstatus s = .next { s with mstatus := m, out := .ok none } ∧
      ∀ n < 64, m.getLsbD n = mstatusBitAfterWrite s n

/-- R237, R239: the bits of mip and mie a CSR write reaches. -/
def Obligations.InterruptRegistersWrite : Prop :=
  words [(0x10000344, .csrWriteMip), (0x10000304, .csrWriteMie)] ∧
  ∀ s : State, s.faulted = false →
    (∃ m : Word, exec .csrWriteMip s = .next { s with mip := m, out := .ok none } ∧
      ∀ n < 64, m.getLsbD n =
        if n ∈ [1, 5, 9] ∨ (n ∈ [0, 4, 8] ∧ hasU s = true ∧ hasN s = true) then s.port.wdata.getLsbD n
        else s.mip.getLsbD n) ∧
    (∃ m : Word, exec .csrWriteMie s = .next { s with mie := m, out := .ok none } ∧
      ∀ n < 64, m.getLsbD n =
        if n ∈ [1, 3, 5, 7, 9, 11] ∨ (n ∈ [0, 4, 8] ∧ hasU s = true ∧ hasN s = true) then s.port.wdata.getLsbD n
        else s.mie.getLsbD n)

/-- R241, R243, R247, R249, R279: a CSR write of these registers keeps exactly the bits they have. -/
def Obligations.MaskedRegistersWrite : Prop :=
  words [(0x10000303, .csrWriteMideleg), (0x10000302, .csrWriteMedeleg), (0x10000306, .csrWriteMcounteren),
    (0x10000106, .csrWriteScounteren), (0x10000320, .csrWriteMcountinhibit)] ∧
  ∀ s : State, s.faulted = false →
    exec .csrWriteMideleg s = .next { s with mideleg := s.port.wdata &&& 0x333, out := .ok none } ∧
    exec .csrWriteMedeleg s = .next { s with medeleg := s.port.wdata &&& 0xB3FF, out := .ok none } ∧
    exec .csrWriteMcounteren s =
      .next { s with mcounteren := (s.port.wdata.extractLsb' 0 3).setWidth 32, out := .ok none } ∧
    exec .csrWriteScounteren s =
      .next { s with scounteren := (s.port.wdata.extractLsb' 0 3).setWidth 32, out := .ok none } ∧
    exec .csrWriteMcountinhibit s =
      .next { s with mcountinhibit := (s.port.wdata &&& 0b101).setWidth 32, out := .ok none }

/-- R245, R277: a reserved trap-vector mode keeps the old mode, the base is written in any case. -/
def Obligations.TrapVectorsWrite : Prop :=
  words [(0x10000305, .csrWriteMtvec), (0x10000105, .csrWriteStvec)] ∧
  ∀ s : State, s.faulted = false →
    (∃ m : Word, exec .csrWriteMtvec s = .next { s with mtvec := m, out := .ok none } ∧
      ∀ n < 64, m.getLsbD n =
        if n < 2 ∧ s.port.wdata.getLsbD 1 = true then s.mtvec.getLsbD n else (data s).getLsbD n) ∧
    (∃ m : Word, exec .csrWriteStvec s = .next { s with stvec := m, out := .ok none } ∧
      ∀ n < 64, m.getLsbD n =
        if n < 2 ∧ s.port.wdata.getLsbD 1 = true then s.stvec.getLsbD n else (data s).getLsbD n)

/-- R251, R255, R257, R267, R281, R285, R287: the plain registers store every bit of wdata[XLEN-1:0]. -/
def Obligations.PlainRegistersWrite : Prop :=
  words [(0x10000340, .csrWriteMscratch), (0x10000342, .csrWriteMcause), (0x10000343, .csrWriteMtval),
    (0x100007A0, .csrWriteTselect), (0x10000140, .csrWriteSscratch), (0x10000142, .csrWriteScause),
    (0x10000143, .csrWriteStval)] ∧
  ∀ s : State, s.faulted = false →
    exec .csrWriteMscratch s = .next { s with mscratch := data s, out := .ok none } ∧
    exec .csrWriteMcause s = .next { s with mcause := data s, out := .ok none } ∧
    exec .csrWriteMtval s = .next { s with mtval := data s, out := .ok none } ∧
    exec .csrWriteTselect s = .next { s with tselect := data s, out := .ok none } ∧
    exec .csrWriteSscratch s = .next { s with sscratch := data s, out := .ok none } ∧
    exec .csrWriteScause s = .next { s with scause := data s, out := .ok none } ∧
    exec .csrWriteStval s = .next { s with stval := data s, out := .ok none }

/-- R289: a 32-bit satp stores anything; a 64-bit one stores a recognized mode, discards the whole write of any other, and
faults if the current privilege has no architecture. -/
def Obligations.SatpWrite : Prop :=
  words [(0x10000180, .csrWriteSatp)] ∧
  ∀ s : State, s.faulted = false →
    (s.params.xlen = .rv32 →
      exec .csrWriteSatp s = .next { s with satp := lo32 s.port.wdata, out := .ok none }) ∧
    (s.params.xlen = .rv64 →
      let mode := (s.port.wdata.extractLsb' 60 4).toNat
      let recognized := mode = 0 ∨ (mode = 8 ∧ archBits s = 2) ∨ (mode = 9 ∧ archBits s = 2 ∧ s.params.haveSv48 = true)
      (archBits s = 0 → exec .csrWriteSatp s = .next { s with faulted := true, out := .fault .invalidArch }) ∧
      (archBits s ≠ 0 → recognized →
        exec .csrWriteSatp s = .next { s with satp := s.port.wdata, out := .ok none }) ∧
      (archBits s ≠ 0 → ¬ recognized → exec .csrWriteSatp s = .next { s with out := .ok none }))

/-- R302: the mstatus a CSR write of sstatus leaves, bit by bit. -/
def Obligations.SstatusWrite : Prop :=
  words [(0x10000100, .csrWriteSstatus)] ∧
  ∀ s : State, s.faulted = false →
    ∃ m : Word, exec .csrWriteSstatus s = .next { s with mstatus := m, out := .ok none } ∧
      ∀ n < 64, m.getLsbD n = mstatusBitAfterSstatus s n

/-- R304, R306, R308, R310: the bits a write of sip, sie, sideleg and sedeleg reaches, all of them delegated ones. -/
def Obligations.DelegatedViewsWrite : Prop :=
  words [(0x10000144, .csrWriteSip), (0x10000104, .csrWriteSie), (0x10000103, .csrWriteSideleg),
    (0x10000102, .csrWriteSedeleg)] ∧
  ∀ s : State, s.faulted = false →
    (∃ m : Word, exec .csrWriteSip s = .next { s with mip := m, out := .ok none } ∧
      ∀ n < 64, m.getLsbD n =
        if s.mideleg.getLsbD n = true ∧ (n = 1 ∨ (n = 0 ∧ hasN s = true ∧ hasU s = true)) then s.port.wdata.getLsbD n
        else s.mip.getLsbD n) ∧
    (∃ m : Word, exec .csrWriteSie s = .next { s with mie := m, out := .ok none } ∧
      ∀ n < 64, m.getLsbD n =
        if s.mideleg.getLsbD n = true ∧ (n ∈ [1, 5, 9] ∨ (n ∈ [0, 4, 8] ∧ hasN s = true ∧ hasU s = true)) then
          s.port.wdata.getLsbD n
        else s.mie.getLsbD n) ∧
    (∃ m : Word, exec .csrWriteSideleg s = .next { s with mideleg := m, out := .ok none } ∧
      ∀ n < 64, m.getLsbD n =
        if n ∈ [1, 5, 9] ∨ (n ∈ [0, 4, 8] ∧ hasN s = true ∧ hasU s = true) then
          s.mideleg.getLsbD n && s.port.wdata.getLsbD n
        else s.mideleg.getLsbD n) ∧
    (∃ m : Word, exec .csrWriteSedeleg s = .next { s with medeleg := m, out := .ok none } ∧
      ∀ n < 64, m.getLsbD n =
        if n < 9 then s.medeleg.getLsbD n && s.port.wdata.getLsbD n else s.medeleg.getLsbD n)

/-- R311: a write of a view leaves every undelegated bit of the machine-level register, and every position outside the
view's writable set. -/
def Obligations.UndelegatedBitsKept : Prop :=
  ∀ s t : State,
    (exec .csrWriteSip s = .next t →
      t.mip &&& ~~~s.mideleg = s.mip &&& ~~~s.mideleg ∧ t.mip &&& ~~~0x003 = s.mip &&& ~~~0x003) ∧
    (exec .csrWriteSie s = .next t →
      t.mie &&& ~~~s.mideleg = s.mie &&& ~~~s.mideleg ∧ t.mie &&& ~~~0x333 = s.mie &&& ~~~0x333) ∧
    (exec .csrWriteSideleg s = .next t →
      t.mideleg &&& ~~~s.mideleg = 0 ∧ t.mideleg &&& ~~~0x333 = s.mideleg &&& ~~~0x333) ∧
    (exec .csrWriteSedeleg s = .next t →
      t.medeleg &&& ~~~s.medeleg = 0 ∧ t.medeleg &&& ~~~0x1FF = s.medeleg &&& ~~~0x1FF)

/-- R312: writing back what a read of sstatus gave changes nothing, where SD is the derived value. -/
def Obligations.SstatusRoundTrip : Prop :=
  ∀ (s r : State) (v : Word), s.faulted = false →
    s.mstatus.getLsbD (s.params.xlen.bits - 1) = dirty s.mstatus →
    exec .csrReadSstatus s = .next r → r.out = .ok (some v) →
    exec .csrWriteSstatus { s with port := { s.port with wdata := v } } =
      .next { s with port := { s.port with wdata := v }, out := .ok none }

/-- R231: every legalizer is idempotent. -/
def Obligations.LegalizersIdempotent : Prop :=
  ∀ (x : Xlen) (caps : Caps) (a : Architecture) (b c : Bool) (nextPc old v : Word),
    legalizeMisa caps nextPc old (legalizeMisa caps nextPc old v) = legalizeMisa caps nextPc old v ∧
    legalizeMstatus x b c old (legalizeMstatus x b c old v) = legalizeMstatus x b c old v ∧
    legalizeMip b old (legalizeMip b old v) = legalizeMip b old v ∧
    legalizeMie b old (legalizeMie b old v) = legalizeMie b old v ∧
    legalizeMideleg (legalizeMideleg v) = legalizeMideleg v ∧
    legalizeMedeleg (legalizeMedeleg v) = legalizeMedeleg v ∧
    legalizeTvec old (legalizeTvec old v) = legalizeTvec old v ∧
    legalizeCounteren ((legalizeCounteren v).setWidth 64) = legalizeCounteren v ∧
    legalizeCountinhibit ((legalizeCountinhibit v).setWidth 64) = legalizeCountinhibit v ∧
    legalizeXepc b caps (legalizeXepc b caps v) = legalizeXepc b caps v ∧
    legalizeSatp64 a b old (legalizeSatp64 a b old v) = legalizeSatp64 a b old v

/-! ### The raw port and the internal port -/

/-- R400: a raw read of each storage register returns the stored value; xepc is not masked. -/
def Obligations.RawReads : Prop :=
  ∀ s : State, s.faulted = false →
    exec (.rawRead 0x300) s = .next { s with out := .ok (some s.mstatus) } ∧
    exec (.rawRead 0x301) s = .next { s with out := .ok (some s.misa) } ∧
    exec (.rawRead 0x302) s = .next { s with out := .ok (some s.medeleg) } ∧
    exec (.rawRead 0x303) s = .next { s with out := .ok (some s.mideleg) } ∧
    exec (.rawRead 0x304) s = .next { s with out := .ok (some s.mie) } ∧
    exec (.rawRead 0x305) s = .next { s with out := .ok (some s.mtvec) } ∧
    exec (.rawRead 0x306) s = .next { s with out := .ok (some (s.mcounteren.setWidth 64)) } ∧
    exec (.rawRead 0x320) s = .next { s with out := .ok (some (s.mcountinhibit.setWidth 64)) } ∧
    exec (.rawRead 0x340) s = .next { s with out := .ok (some s.mscratch) } ∧
    exec (.rawRead 0x341) s = .next { s with out := .ok (some s.mepc) } ∧
    exec (.rawRead 0x342) s = .next { s with out := .ok (some s.mcause) } ∧
    exec (.rawRead 0x343) s = .next { s with out := .ok (some s.mtval) } ∧
    exec (.rawRead 0x344) s = .next { s with out := .ok (some s.mip) } ∧
    exec (.rawRead 0x105) s = .next { s with out := .ok (some s.stvec) } ∧
    exec (.rawRead 0x106) s = .next { s with out := .ok (some (s.scounteren.setWidth 64)) } ∧
    exec (.rawRead 0x140) s = .next { s with out := .ok (some s.sscratch) } ∧
    exec (.rawRead 0x141) s = .next { s with out := .ok (some s.sepc) } ∧
    exec (.rawRead 0x142) s = .next { s with out := .ok (some s.scause) } ∧
    exec (.rawRead 0x143) s = .next { s with out := .ok (some s.stval) } ∧
    exec (.rawRead 0x180) s = .next { s with out := .ok (some s.satp) } ∧
    exec (.rawRead 0x7A0) s = .next { s with out := .ok (some s.tselect) } ∧
    exec (.rawRead 0xF11) s = .next { s with out := .ok (some s.params.mvendorid) } ∧
    exec (.rawRead 0xF12) s = .next { s with out := .ok (some s.params.marchid) } ∧
    exec (.rawRead 0xF13) s = .next { s with out := .ok (some s.params.mimpid) } ∧
    exec (.rawRead 0xF14) s = .next { s with out := .ok (some s.params.mhartid) } ∧
    (s.params.xlen = .rv64 →
      exec (.rawRead 0xB00) s = .next { s with out := .ok (some s.mcycle) } ∧
      exec (.rawRead 0xB02) s = .next { s with out := .ok (some s.minstret) }) ∧
    (s.params.xlen = .rv32 →
      exec (.rawRead 0xB00) s = .next { s with out := .ok (some (lo32 s.mcycle)) } ∧
      exec (.rawRead 0xB02) s = .next { s with out := .ok (some (lo32 s.minstret)) } ∧
      exec (.rawRead 0xB80) s = .next { s with out := .ok (some (hi32 s.mcycle)) } ∧
      exec (.rawRead 0xB82) s = .next { s with out := .ok (some (hi32 s.minstret)) })

/-- R400, R403: which raw accesses are rejected, and with which reason. -/
def Obligations.RawRefusals : Prop :=
  ∀ (s : State) (addr : BitVec 12), s.faulted = false →
    (addr ∉ assignedNumbers s.params.xlen →
      exec (.rawRead addr) s = .next { s with out := .rejected .noSuchCsr } ∧
      exec (.rawWrite addr) s = .next { s with out := .rejected .noSuchCsr }) ∧
    (addr ∈ viewNumbers →
      exec (.rawRead addr) s = .next { s with out := .rejected .notStorage } ∧
      exec (.rawWrite addr) s = .next { s with out := .rejected .notStorage }) ∧
    (addr ∈ readOnlyNumbers → exec (.rawWrite addr) s = .next { s with out := .rejected .readOnly })

/-- R401, R403: a raw write changes the masked bits of RAWMASK and no other; a raw write of misa changes nothing. -/
def Obligations.RawWritesMasked : Prop :=
  ∀ s : State, s.faulted = false →
    let put := fun (old writable : Word) => (old &&& ~~~(mask s &&& writable)) ||| (data s &&& (mask s &&& writable))
    let all : Word := ~~~0
    exec (.rawWrite 0x301) s = .next { s with out := .ok none } ∧
    exec (.rawWrite 0x344) s = .next { s with mip := put s.mip 0xBBB, out := .ok none } ∧
    exec (.rawWrite 0x304) s = .next { s with mie := put s.mie 0xBBB, out := .ok none } ∧
    exec (.rawWrite 0x303) s = .next { s with mideleg := put s.mideleg 0x333, out := .ok none } ∧
    exec (.rawWrite 0x302) s = .next { s with medeleg := put s.medeleg 0xB3FF, out := .ok none } ∧
    exec (.rawWrite 0x305) s = .next { s with mtvec := put s.mtvec all, out := .ok none } ∧
    exec (.rawWrite 0x105) s = .next { s with stvec := put s.stvec all, out := .ok none } ∧
    exec (.rawWrite 0x342) s = .next { s with mcause := put s.mcause all, out := .ok none } ∧
    exec (.rawWrite 0x142) s = .next { s with scause := put s.scause all, out := .ok none } ∧
    exec (.rawWrite 0x343) s = .next { s with mtval := put s.mtval all, out := .ok none } ∧
    exec (.rawWrite 0x143) s = .next { s with stval := put s.stval all, out := .ok none } ∧
    exec (.rawWrite 0x340) s = .next { s with mscratch := put s.mscratch all, out := .ok none } ∧
    exec (.rawWrite 0x140) s = .next { s with sscratch := put s.sscratch all, out := .ok none } ∧
    exec (.rawWrite 0x341) s = .next { s with mepc := put s.mepc all, out := .ok none } ∧
    exec (.rawWrite 0x141) s = .next { s with sepc := put s.sepc all, out := .ok none } ∧
    exec (.rawWrite 0x7A0) s = .next { s with tselect := put s.tselect all, out := .ok none } ∧
    exec (.rawWrite 0x180) s = .next { s with satp := put s.satp all, out := .ok none } ∧
    exec (.rawWrite 0x306) s =
      .next { s with mcounteren := (put (s.mcounteren.setWidth 64) 0x7).setWidth 32, out := .ok none } ∧
    exec (.rawWrite 0x106) s =
      .next { s with scounteren := (put (s.scounteren.setWidth 64) 0x7).setWidth 32, out := .ok none } ∧
    exec (.rawWrite 0x320) s =
      .next { s with mcountinhibit := (put (s.mcountinhibit.setWidth 64) 0x5).setWidth 32, out := .ok none }

/-- R401, R403: the mstatus a raw write leaves, bit by bit, SD recomputed. -/
def Obligations.RawWriteOfStatus : Prop :=
  ∀ s : State, s.faulted = false →
    ∃ m : Word, exec (.rawWrite 0x300) s = .next { s with mstatus := m, out := .ok none } ∧
      ∀ n < 64, m.getLsbD n = mstatusBitAfterRaw s n

/-- R403: a raw write of a counter or of one half of it, bit by bit; minstret_written does not change. -/
def Obligations.RawWritesOfCounters : Prop :=
  ∀ s : State, s.faulted = false →
    let merged := fun (old : Word) (lo hi n : Nat) =>
      if lo ≤ n ∧ n < hi ∧ s.port.wmask.getLsbD (n - lo) = true then s.port.wdata.getLsbD (n - lo) else old.getLsbD n
    let top := s.params.xlen.bits
    (∃ c : Word, exec (.rawWrite 0xB00) s = .next { s with mcycle := c, out := .ok none } ∧
      ∀ n < 64, c.getLsbD n = merged s.mcycle 0 top n) ∧
    (∃ c : Word, exec (.rawWrite 0xB02) s = .next { s with minstret := c, out := .ok none } ∧
      ∀ n < 64, c.getLsbD n = merged s.minstret 0 top n) ∧
    (s.params.xlen = .rv32 →
      (∃ c : Word, exec (.rawWrite 0xB80) s = .next { s with mcycle := c, out := .ok none } ∧
        ∀ n < 64, c.getLsbD n = merged s.mcycle 32 64 n) ∧
      (∃ c : Word, exec (.rawWrite 0xB82) s = .next { s with minstret := c, out := .ok none } ∧
        ∀ n < 64, c.getLsbD n = merged s.minstret 32 64 n))

/-- R405: what a read through the internal port returns. -/
def Obligations.InternalReads : Prop :=
  words [(0x40000000, .intReadCurPrivilege), (0x40000001, .intReadCurInst), (0x40000002, .intReadMinstretWritten),
    (0x40000003, .intReadMtime), (0x40000004, .intReadMcycle), (0x40000005, .intReadMinstret)] ∧
  (∀ sel : BitVec 12, 5 < sel.toNat → decodeCommand (commandOf 0x4 0 sel) = .error .reservedEncoding) ∧
  ∀ s : State, s.faulted = false →
    exec .intReadCurPrivilege s =
      .next { s with out := .ok (some (BitVec.ofNat 64 (levelOf s.curPrivilege))) } ∧
    exec .intReadCurInst s = .next { s with out := .ok (some s.curInst) } ∧
    exec .intReadMinstretWritten s = .next { s with out := .ok (some (answer s.minstretWritten)) } ∧
    exec .intReadMtime s = .next { s with out := .ok (some s.mtime) } ∧
    exec .intReadMcycle s = .next { s with out := .ok (some s.mcycle) } ∧
    exec .intReadMinstret s = .next { s with out := .ok (some s.minstret) }

/-- R406: what a write through the internal port stores; the privilege code 0b10 is refused, and a write of minstret leaves
minstret_written alone. -/
def Obligations.InternalWrites : Prop :=
  words [(0x50000000, .intWriteCurPrivilege), (0x50000001, .intWriteCurInst),
    (0x50000002, .intWriteMinstretWritten), (0x50000003, .intWriteMtime), (0x50000004, .intWriteMcycle),
    (0x50000005, .intWriteMinstret)] ∧
  ∀ s : State, s.faulted = false →
    (∀ p : Privilege, (s.port.wdata.extractLsb' 0 2).toNat = levelOf p →
      exec .intWriteCurPrivilege s = .next { s with curPrivilege := p, out := .ok none }) ∧
    ((s.port.wdata.extractLsb' 0 2).toNat = 2 →
      exec .intWriteCurPrivilege s = .next { s with out := .rejected .badValue }) ∧
    exec .intWriteCurInst s = .next { s with curInst := data s, out := .ok none } ∧
    exec .intWriteMinstretWritten s =
      .next { s with minstretWritten := s.port.wdata.getLsbD 0, out := .ok none } ∧
    exec .intWriteMtime s = .next { s with mtime := s.port.wdata, out := .ok none } ∧
    exec .intWriteMcycle s = .next { s with mcycle := s.port.wdata, out := .ok none } ∧
    exec .intWriteMinstret s = .next { s with minstret := s.port.wdata, out := .ok none }

/-! ### Resolvers, queries, retirement -/

/-- R340, R341: the effective privilege of each access kind; a fetch never looks at MPRV, and MPP = 0b10 faults. -/
def Obligations.EffectivePrivilege : Prop :=
  words [(0x60000000, .effPrivRead), (0x61000000, .effPrivWrite), (0x62000000, .effPrivReadWrite),
    (0x63000000, .effPrivExecute)] ∧
  ∀ s : State, s.faulted = false →
    exec .effPrivExecute s = .next { s with out := .ok (some (BitVec.ofNat 64 (levelOf s.curPrivilege))) } ∧
    ∀ i ∈ [Instr.effPrivRead, .effPrivWrite, .effPrivReadWrite],
      (s.mstatus.getLsbD 17 = false →
        exec i s = .next { s with out := .ok (some (BitVec.ofNat 64 (levelOf s.curPrivilege))) }) ∧
      (s.mstatus.getLsbD 17 = true → s.mstatus.extractLsb' 11 2 ≠ 0b10 →
        exec i s = .next { s with out := .ok (some ((s.mstatus.extractLsb' 11 2).setWidth 64)) }) ∧
      (s.mstatus.getLsbD 17 = true → s.mstatus.extractLsb' 11 2 = 0b10 →
        exec i s = .next { s with faulted := true, out := .fault .invalidPrivilege })

/-- R342 to R344: CUR_ARCH answers the code that governs the current privilege and faults on the code 0; in a legal state
it answers XLEN's code. -/
def Obligations.CurrentArchitecture : Prop :=
  words [(0x70000000, .curArch)] ∧
  ∀ s : State, s.faulted = false →
    (archBits s ≠ 0 → exec .curArch s = .next { s with out := .ok (some ((archBits s).setWidth 64)) }) ∧
    (archBits s = 0 → exec .curArch s = .next { s with faulted := true, out := .fault .invalidArch }) ∧
    (s.Legal → exec .curArch s = .next { s with out := .ok (some (xlenCode s.params.xlen)) })

/-- R345 to R347: the trap target of the stored trap state, or no value where the mode is reserved. -/
def Obligations.TrapVectorQueries : Prop :=
  words [(0x80000000, .tvecAddrM), (0x81000000, .tvecAddrS)] ∧
  ∀ s : State, s.faulted = false →
    exec .tvecAddrM s = .next { s with out := .ok (target s.params.xlen s.mtvec s.mcause) } ∧
    exec .tvecAddrS s = .next { s with out := .ok (target s.params.xlen s.stvec s.scause) }

/-- R211, R348, R349, R351: the alignment mask and the eight extension predicates. -/
def Obligations.MaskAndExtensionQueries : Prop :=
  words [(0x90000000, .pcAlignMask), (0xA0000000, .haveExtA), (0xA1000000, .haveExtC), (0xA2000000, .haveExtM),
    (0xA3000000, .haveExtS), (0xA4000000, .haveExtU), (0xA5000000, .haveExtN), (0xA6000000, .haveExtF),
    (0xA7000000, .haveExtD)] ∧
  (∀ e : BitVec 4, 8 ≤ e.toNat → decodeCommand (commandOf 0xA e 0) = .error .reservedEncoding) ∧
  ∀ s : State, s.faulted = false →
    let fsOn := s.mstatus.getLsbD 13 || s.mstatus.getLsbD 14
    exec .pcAlignMask s = .next { s with out := .ok (some (pcMask s.params.xlen (hasC s))) } ∧
    exec .haveExtA s = .next { s with out := .ok (some (answer (s.misa.getLsbD 0))) } ∧
    exec .haveExtC s = .next { s with out := .ok (some (answer (s.misa.getLsbD 2))) } ∧
    exec .haveExtM s = .next { s with out := .ok (some (answer (s.misa.getLsbD 12))) } ∧
    exec .haveExtS s = .next { s with out := .ok (some (answer (s.misa.getLsbD 18))) } ∧
    exec .haveExtU s = .next { s with out := .ok (some (answer (s.misa.getLsbD 20))) } ∧
    exec .haveExtN s = .next { s with out := .ok (some (answer (s.misa.getLsbD 13))) } ∧
    exec .haveExtF s = .next { s with out := .ok (some (answer (s.misa.getLsbD 5 && fsOn))) } ∧
    exec .haveExtD s = .next { s with out := .ok (some (answer (s.misa.getLsbD 3 && fsOn))) }

/-- R371: RETIRE consumes the flag of an explicit write, or counts, modulo 2^64; mcountinhibit plays no part. -/
def Obligations.RetireCounts : Prop :=
  words [(0xB0000000, .retire)] ∧
  ∀ s : State, s.faulted = false →
    (s.minstretWritten = true → exec .retire s = .next { s with minstretWritten := false, out := .ok none }) ∧
    (s.minstretWritten = false →
      exec .retire s = .next { s with minstret := BitVec.ofNat 64 ((s.minstret.toNat + 1) % 2 ^ 64), out := .ok none })

/-- R372, R373: which commands of the block can change minstret, its flag, mcycle and mtime. -/
def Obligations.CountersChangeOnlyBy : Prop :=
  ∀ (i : Instr) (s t : State), i.channel = .command → exec i s = .next t →
    (touchesInstret i = false → t.minstret = s.minstret ∧ t.minstretWritten = s.minstretWritten) ∧
    (setsInstretFlag i = false → t.minstretWritten = true → s.minstretWritten = true) ∧
    (touchesMcycle i = false → t.mcycle = s.mcycle) ∧
    (touchesMtime i = false → t.mtime = s.mtime)

/-- R540: which commands can change cur_privilege, and to what; no command moves the host's pc or general registers (R10,
R32). And a bare command the host's contract admits once boot is over (R630 as log 27 reads it) writes no register but mip,
the counters, minstret_written, cur_inst and faulted. -/
def Obligations.PrivilegeChangesOnlyBy : Prop :=
  (∀ (i : Instr) (s t : State), i.channel = .command → exec i s = .next t →
    (touchesPrivilege i = false → t.curPrivilege = s.curPrivilege) ∧
    (i = .reset → s.faulted = false → t.curPrivilege = .machine) ∧
    t.pc = s.pc ∧ t.x = s.x) ∧
  ∀ (s t : State) (p : Inputs) (rest : List Request),
    s.pending = .command p :: rest → hostMaySend false p.cmd = true → step s = .next t →
    t = { s with
      port := p, pending := rest, mip := t.mip, mcycle := t.mcycle, mtime := t.mtime, minstret := t.minstret,
      minstretWritten := t.minstretWritten, curInst := t.curInst, faulted := t.faulted, out := t.out }

/-- R501, R502: a rejected command changes nothing but the response, and a fault sets `faulted` and nothing else. -/
def Obligations.RejectionsAndFaultsWriteNothing : Prop :=
  ∀ (i : Instr) (s t : State), i.channel = .command → exec i s = .next t →
    (∀ r, t.out = .rejected r → t = { s with out := .rejected r }) ∧
    (∀ r, t.out = .fault r → t = { s with faulted := true, out := .fault r })

/-- R103, R350: no read, no query and no check changes a register; only EFF_PRIV and CUR_ARCH can set `faulted`. -/
def Obligations.ReadsAndQueriesWriteNothing : Prop :=
  ∀ (s t : State),
    (∀ c : Csr, exec c.readInstr s = .next t → t = { s with out := t.out }) ∧
    (∀ r : IntReg, exec r.readInstr s = .next t → t = { s with out := t.out }) ∧
    (∀ addr, exec (.rawRead addr) s = .next t → t = { s with out := t.out }) ∧
    (∀ addr, exec (.accessCheckRead addr) s = .next t ∨ exec (.accessCheckWrite addr) s = .next t →
      t = { s with out := t.out }) ∧
    (∀ i ∈ queries, exec i s = .next t →
      t = { s with faulted := t.faulted, out := t.out } ∧
      (i ∉ [Instr.effPrivRead, .effPrivWrite, .effPrivReadWrite, .curArch] → t.faulted = s.faulted))

/-! ### Access check, traps and returns, reset -/

/-- R420: what ACCESS_CHECK answers. -/
def Obligations.AccessCheckAnswers : Prop :=
  (∀ addr, decodeCommand (commandOf 0xC 0 addr) = .ok (.accessCheckRead addr) ∧
      decodeCommand (commandOf 0xC 1 addr) = .ok (.accessCheckWrite addr)) ∧
  ∀ (s : State) (addr : BitVec 12), s.faulted = false →
    exec (.accessCheckRead addr) s = .next { s with out := .ok (some (answer (mayAccess false addr s))) } ∧
    exec (.accessCheckWrite addr) s = .next { s with out := .ok (some (answer (mayAccess true addr s))) }

/-- R430, R431: a trap that is not delegated enters Machine level, for exceptions and interrupts. -/
def Obligations.TrapIntoMachine : Prop :=
  ∀ (s : State) (interrupt : Bool) (a : Word), s.faulted = false →
    (data s).toNat < 2 ^ (s.params.xlen.bits - 1) →
    goesToSupervisor interrupt s = false →
    target s.params.xlen s.mtvec (causeOf s.params.xlen interrupt (data s)) = some a →
    ∃ m : Word,
      exec (trapInstr interrupt) s =
        .next { s with
          mcause := causeOf s.params.xlen interrupt (data s)
          mtval := low s.params.xlen s.port.tval
          mepc := low s.params.xlen s.port.epc
          mstatus := m
          curPrivilege := .machine
          out := .ok (some a) } ∧
      ∀ n < 64, m.getLsbD n = mstatusBitAfterMachineTrap s n

/-- R430, R432, R532: a delegated trap below Machine level enters Supervisor level and leaves the machine-level registers. -/
def Obligations.TrapIntoSupervisor : Prop :=
  ∀ (s : State) (interrupt : Bool) (a : Word), s.faulted = false →
    (data s).toNat < 2 ^ (s.params.xlen.bits - 1) →
    goesToSupervisor interrupt s = true →
    target s.params.xlen s.stvec (causeOf s.params.xlen interrupt (data s)) = some a →
    ∃ m : Word,
      exec (trapInstr interrupt) s =
        .next { s with
          scause := causeOf s.params.xlen interrupt (data s)
          stval := low s.params.xlen s.port.tval
          sepc := low s.params.xlen s.port.epc
          mstatus := m
          curPrivilege := .supervisor
          out := .ok (some a) } ∧
      ∀ n < 64, m.getLsbD n = mstatusBitAfterSupervisorTrap s n

/-- R430: a code that does not fit is refused; a target level whose trap-vector mode is reserved faults. -/
def Obligations.TrapRefusals : Prop :=
  ∀ (s : State) (interrupt : Bool), s.faulted = false →
    (2 ^ (s.params.xlen.bits - 1) ≤ (data s).toNat →
      exec (trapInstr interrupt) s = .next { s with out := .rejected .badValue }) ∧
    ((data s).toNat < 2 ^ (s.params.xlen.bits - 1) →
      (if goesToSupervisor interrupt s then s.stvec else s.mtvec).getLsbD 1 = true →
      exec (trapInstr interrupt) s = .next { s with faulted := true, out := .fault .noTrapTarget })

/-- R434: MRET is refused below Machine level, faults on MPP = 0b10, and else returns. -/
def Obligations.MachineReturn : Prop :=
  words [(0xE0000000, .xretMret)] ∧
  ∀ s : State, s.faulted = false →
    (s.curPrivilege ≠ .machine → exec .xretMret s = .next { s with out := .rejected .privilege }) ∧
    (s.curPrivilege = .machine → s.mstatus.extractLsb' 11 2 = 0b10 →
      exec .xretMret s = .next { s with faulted := true, out := .fault .invalidPrivilege }) ∧
    (s.curPrivilege = .machine → ∀ p : Privilege, (s.mstatus.extractLsb' 11 2).toNat = levelOf p →
      ∃ m : Word,
        exec .xretMret s =
          .next { s with
            mstatus := m
            curPrivilege := p
            out := .ok (some (s.mepc &&& pcMask s.params.xlen (hasC s))) } ∧
        ∀ n < 64, m.getLsbD n = mstatusBitAfterMret s n)

/-- R435: SRET is refused at User level, and at Supervisor level while TSR = 1, and else returns. -/
def Obligations.SupervisorReturn : Prop :=
  words [(0xE1000000, .xretSret)] ∧
  ∀ s : State, s.faulted = false →
    let refused := s.curPrivilege = .user ∨ (s.curPrivilege = .supervisor ∧ s.mstatus.getLsbD 22 = true)
    (refused → exec .xretSret s = .next { s with out := .rejected .privilege }) ∧
    (¬ refused →
      ∃ m : Word,
        exec .xretSret s =
          .next { s with
            mstatus := m
            curPrivilege := if s.mstatus.getLsbD 8 then .supervisor else .user
            out := .ok (some (s.sepc &&& pcMask s.params.xlen (hasC s))) } ∧
        ∀ n < 64, m.getLsbD n = mstatusBitAfterSret s n)

/-- R600, R601: RESET sets every fixed item, leaves every drawn one within its constraint and takes every legal draw as it
is, and keeps the parameters. -/
def Obligations.ResetState : Prop :=
  words [(0xF0000000, .reset)] ∧
  (∀ s : State, s.faulted = true → exec .reset s = .next { s with out := .fault .halted }) ∧
  ∀ s : State, s.faulted = false →
    let d := s.port.draw
    let x := s.params.xlen
    ∃ t, exec .reset s = .next t ∧
      t.out = .ok none ∧ t.faulted = false ∧ t.curPrivilege = .machine ∧ t.minstretWritten = false ∧
      t.params = s.params ∧
      (∀ n < 64, t.misa.getLsbD n = misaBitAfterReset s n) ∧
      (∀ n < 64, t.mstatus.getLsbD n = mstatusBitAfterReset s n) ∧
      DrawnWithin 0xBBB d.mip t.mip ∧ DrawnWithin 0xBBB d.mie t.mie ∧
      DrawnWithin 0x333 d.mideleg t.mideleg ∧ DrawnWithin 0xB3FF d.medeleg t.medeleg ∧
      t.mtvec.getLsbD 1 = false ∧ (d.mtvec.getLsbD 1 = false → t.mtvec = low x d.mtvec) ∧
      t.stvec.getLsbD 1 = false ∧ (d.stvec.getLsbD 1 = false → t.stvec = low x d.stvec) ∧
      t.mepc.getLsbD 0 = false ∧ (d.mepc.getLsbD 0 = false → t.mepc = low x d.mepc) ∧
      t.sepc.getLsbD 0 = false ∧ (d.sepc.getLsbD 0 = false → t.sepc = low x d.sepc) ∧
      t.mcause = low x d.mcause ∧ t.scause = low x d.scause ∧ t.mtval = low x d.mtval ∧ t.stval = low x d.stval ∧
      t.mscratch = low x d.mscratch ∧ t.sscratch = low x d.sscratch ∧ t.tselect = low x d.tselect ∧
      DrawnWithin 0x7 d.mcounteren t.mcounteren ∧ DrawnWithin 0x7 d.scounteren t.scounteren ∧
      DrawnWithin 0x5 d.mcountinhibit t.mcountinhibit ∧
      (x = .rv32 → t.satp = lo32 d.satp) ∧
      (x = .rv64 → (t.satp.extractLsb' 60 4).toNat ∈ (if s.params.haveSv48 then [0, 8, 9] else [0, 8]) ∧
        ((d.satp.extractLsb' 60 4).toNat ∈ (if s.params.haveSv48 then [0, 8, 9] else [0, 8]) → t.satp = d.satp)) ∧
      t.mcycle = d.mcycle ∧ t.mtime = d.mtime ∧ t.minstret = d.minstret ∧ t.curInst = low x d.curInst

/-! ### The host's instructions -/

/-- R445, R448, R451: CSRRW and CSRRWI that pass the access check read the CSR, write it, move the old value to x[rd] (x0
discards it), retire and go to the next instruction. -/
def Obligations.CsrSwapInstructions : Prop :=
  ∀ (s : State) (c : Csr) (rd rs1 uimm : BitVec 5), s.faulted = false → mayAccess true c.addr s = true →
    (c = .satp → s.params.xlen = .rv64 → archBits s ≠ 0) →
    ∃ v, exec c.readInstr s = .next { s with out := .ok (some v) } ∧
      (∃ u, exec c.writeInstr (driven s (reg s rs1)) = .next u ∧ u.out = .ok none ∧
        exec (.csrrw rd c.addr rs1) s =
          .next (retiredAt { u with port := s.port, x := regsAfter s rd v } (nextPc s))) ∧
      (∃ u, exec c.writeInstr (driven s (uimm.setWidth 64)) = .next u ∧ u.out = .ok none ∧
        exec (.csrrwi rd c.addr uimm) s =
          .next (retiredAt { u with port := s.port, x := regsAfter s rd v } (nextPc s)))

/-- R446, R447, R449, R450, R451: CSRRS, CSRRC and their immediate forms: with operand register x0 or immediate 0 only a
read, and else a read and a write of the value with the bits set or cleared. -/
def Obligations.CsrModifyInstructions : Prop :=
  ∀ (s : State) (c : Csr) (rd k : BitVec 5), s.faulted = false →
    (c = .satp → s.params.xlen = .rv64 → archBits s ≠ 0) →
    (mayAccess false c.addr s = true →
      ∃ v, exec c.readInstr s = .next { s with out := .ok (some v) } ∧
        ∀ i ∈ [Instr.csrrs rd c.addr 0, .csrrc rd c.addr 0, .csrrsi rd c.addr 0, .csrrci rd c.addr 0],
          exec i s = .next (retiredAt { s with x := regsAfter s rd v } (nextPc s))) ∧
    (mayAccess true c.addr s = true → k ≠ 0 →
      ∃ v, exec c.readInstr s = .next { s with out := .ok (some v) } ∧
        ∀ iw ∈ [(Instr.csrrs rd c.addr k, v ||| reg s k), (.csrrc rd c.addr k, v &&& ~~~(reg s k)),
            (.csrrsi rd c.addr k, v ||| k.setWidth 64), (.csrrci rd c.addr k, v &&& ~~~(k.setWidth 64))],
          ∃ u, exec c.writeInstr (driven s iw.2) = .next u ∧ u.out = .ok none ∧
            exec iw.1 s = .next (retiredAt { u with port := s.port, x := regsAfter s rd v } (nextPc s)))

/-- R445 to R450, R510, R512: a CSR instruction whose access check answers 0, an unassigned number included, takes the
IllegalInstr trap at its pc; it writes no CSR and does not retire. -/
def Obligations.RefusedCsrInstructionsTrap : Prop :=
  ∀ (s : State) (csr : BitVec 12) (rd k : BitVec 5), s.faulted = false → low s.params.xlen s.pc = s.pc →
    (mayAccess true csr s = false →
      ∀ i ∈ [Instr.csrrw rd csr k, .csrrwi rd csr k],
        ∃ u, exec .trapEnterException (drivenTrap s 2 (illegalTval s (encode i))) = .next u ∧
          exec i s = .next (trapped u s)) ∧
    (mayAccess (decide (k ≠ 0)) csr s = false →
      ∀ i ∈ [Instr.csrrs rd csr k, .csrrc rd csr k, .csrrsi rd csr k, .csrrci rd csr k],
        ∃ u, exec .trapEnterException (drivenTrap s 2 (illegalTval s (encode i))) = .next u ∧
          exec i s = .next (trapped u s))

/-- R451, R510: ECALL traps with the code of the current level and trap value 0, EBREAK with code 3 and the pc; pc is the
address TRAP_ENTER returns, and neither retires. -/
def Obligations.CallAndBreakpointTrap : Prop :=
  ∀ s : State, s.faulted = false → low s.params.xlen s.pc = s.pc →
    (∃ u, exec .trapEnterException (drivenTrap s (BitVec.ofNat 64 (8 + levelOf s.curPrivilege)) 0) = .next u ∧
      exec .ecall s = .next (trapped u s)) ∧
    (∃ u, exec .trapEnterException (drivenTrap s 3 s.pc) = .next u ∧ exec .ebreak s = .next (trapped u s))

/-- R451: MRET and SRET run XRET, go to the address it returns and retire; one XRET rejects is an illegal instruction; a
fault ends the run (log 8, log 11). -/
def Obligations.ReturnInstructions : Prop :=
  ∀ s : State, s.faulted = false → low s.params.xlen s.pc = s.pc →
    (s.curPrivilege = .machine → ∀ p : Privilege, (s.mstatus.extractLsb' 11 2).toNat = levelOf p →
      ∃ m : Word, (∀ n < 64, m.getLsbD n = mstatusBitAfterMret s n) ∧
        exec .mret s =
          .next (retiredAt { s with mstatus := m, curPrivilege := p } (s.mepc &&& pcMask s.params.xlen (hasC s)))) ∧
    (s.curPrivilege ≠ .user → ¬ (s.curPrivilege = .supervisor ∧ s.mstatus.getLsbD 22 = true) →
      ∃ m : Word, (∀ n < 64, m.getLsbD n = mstatusBitAfterSret s n) ∧
        exec .sret s =
          .next (retiredAt
            { s with mstatus := m, curPrivilege := if s.mstatus.getLsbD 8 then .supervisor else .user }
            (s.sepc &&& pcMask s.params.xlen (hasC s)))) ∧
    ∀ ix ∈ [(Instr.mret, Instr.xretMret), (.sret, .xretSret)],
      ∃ u, exec ix.2 s = .next u ∧
        (∀ a, u.out = .ok (some a) → exec ix.1 s = .next (retiredAt u a)) ∧
        (∀ r, u.out = .rejected r →
          ∃ w, exec .trapEnterException (drivenTrap s 2 (illegalTval s (encode ix.1))) = .next w ∧
            exec ix.1 s = .next (trapped w s)) ∧
        (∀ r, u.out = .fault r → exec ix.1 s = .next u)

/-- R436, R451: WFI ends at once and retires; below Machine level with TW = 1 it is an illegal instruction (log 10). -/
def Obligations.WaitForInterrupt : Prop :=
  ∀ s : State, s.faulted = false →
    (s.curPrivilege = .machine ∨ s.mstatus.getLsbD 21 = false → exec .wfi s = .next (retiredAt s (nextPc s))) ∧
    (s.curPrivilege ≠ .machine → s.mstatus.getLsbD 21 = true → low s.params.xlen s.pc = s.pc →
      ∃ u, exec .trapEnterException (drivenTrap s 2 (illegalTval s (encode .wfi))) = .next u ∧
        exec .wfi s = .next (trapped u s))

/-- R520, R436: a host that looks for an interrupt takes the due one with TRAP_ENTER at its pc, and does nothing where none
is due. -/
def Obligations.InterruptArbitration : Prop :=
  ∀ (s : State) (p : Inputs) (rest : List Request), s.pending = .interrupt p :: rest → s.faulted = false →
    low s.params.xlen s.pc = s.pc →
    (∀ n, Due s n →
      ∃ u, exec .trapEnterInterrupt (drivenTrap { s with port := p, pending := rest } (BitVec.ofNat 64 n) 0) = .next u ∧
        step s = .next (trapped u { s with port := p, pending := rest })) ∧
    ((∀ n, ¬ Due s n) → step s = .next { s with port := p, pending := rest })

/-! ### Invariants and the codec -/

/-- The state after reset is legal. -/
def Obligations.ResetIsLegal : Prop := State.reset.Legal

/-- R35, R37 to R59: every step keeps a legal state legal, from every legal state, at both XLEN and every parameter: SD is
derived, the hardwired bits of misa, mstatus, mip, mie, mideleg, medeleg and the counter controls hold, and every register
keeps its width. -/
def Obligations.StepKeepsLegal : Prop :=
  ∀ s t : State, s.Legal → step s = .next t → t.Legal

/-- R39: after every command that writes mstatus, SD is derived from FS and XS, whatever SD was before. -/
def Obligations.DirtyBitIsDerived : Prop :=
  ∀ (i : Instr) (s t : State) (d : Option Word), writesMstatus i = true → exec i s = .next t → t.out = .ok d →
    t.mstatus.getLsbD (s.params.xlen.bits - 1) = dirty t.mstatus

/-- R204: the laws of the field codec. R203: in every layout of 10_state.md and 42_views.md, at both XLEN, every field lies
inside the word and no two overlap; and the decidable check over the tables says so. -/
def Obligations.FieldCodec : Prop :=
  (∀ (w v : Word) (F : Field), F.lo ≤ F.hi → F.hi < 64 →
    (getField (setField w F v) F).toNat = v.toNat % 2 ^ (F.hi - F.lo + 1) ∧
    (∀ G : Field, G.lo ≤ G.hi → G.hi < 64 → (F.hi < G.lo ∨ G.hi < F.lo) →
      getField (setField w F v) G = getField w G) ∧
    setField w F (getField w F) = w) ∧
  (∀ x : Xlen, ∀ L ∈ layouts x, (∀ F ∈ L.2, F.lo ≤ F.hi ∧ F.hi < L.1) ∧
    (L.2.Pairwise fun F G => F.hi < G.lo ∨ G.hi < F.lo) ∧ layoutOk L = true)
end

