-- ==== Sys2Proof/Laws/Codec.lean ====
section
/-! SUPPORT. The codec and the width operations, bit by bit: what each operation on words leaves in bit n. Every statement
about a register's bits goes through these and unfolds no operation. -/

namespace Sys2Proof

theorem Xlen.bits_pos (x : Xlen) : 0 < x.bits := by cases x <;> decide

theorem Xlen.bits_le (x : Xlen) : x.bits ≤ 64 := by cases x <;> decide

theorem Xlen.getLsbD_ones (x : Xlen) (n : Nat) : x.ones.getLsbD n = decide (n < x.bits) := by
  by_cases h : n < 64
  · revert n; cases x <;> decide
  · have := x.bits_le
    rw [BitVec.getLsbD_of_ge _ _ (by omega)]; simp; omega

@[simp] theorem Xlen.getLsbD_trunc (x : Xlen) (v : Word) (n : Nat) :
    (x.trunc v).getLsbD n = (decide (n < x.bits) && v.getLsbD n) := by
  simp [Xlen.trunc, Xlen.getLsbD_ones, Bool.and_comm]

theorem Xlen.getLsbD_topBit (x : Xlen) (n : Nat) : x.topBit.getLsbD n = decide (n = x.bits - 1) := by
  by_cases h : n < 64
  · revert n; cases x <;> decide
  · have := x.bits_le
    rw [BitVec.getLsbD_of_ge _ _ (by omega)]; simp; omega

@[simp] theorem getLsbD_lowHalf (v : Word) (n : Nat) : (lowHalf v).getLsbD n = (decide (n < 32) && v.getLsbD n) := by
  exact Xlen.getLsbD_trunc .rv32 v n

@[simp] theorem getLsbD_highHalf (v : Word) (n : Nat) : (highHalf v).getLsbD n = v.getLsbD (32 + n) := by
  simp [highHalf]

@[simp] theorem getLsbD_joinHalves (hi lo : Word) (n : Nat) :
    (joinHalves hi lo).getLsbD n = if n < 32 then lo.getLsbD n else decide (n < 64) && hi.getLsbD (n - 32) := by
  by_cases h : n < 32 <;> simp [joinHalves, h]

@[simp] theorem getLsbD_flagWord (b : Bool) (n : Nat) : (flagWord b).getLsbD n = (decide (n = 0) && b) := by
  cases b <;> simp [flagWord]

namespace Machine

theorem getLsbD_lowOnes (w n : Nat) : (lowOnes w).getLsbD n = (decide (n < w) && decide (n < 64)) := by
  by_cases hw : w < 64
  · have e : lowOnes w = BitVec.ofNat 64 (2 ^ w - 1) := by
      apply BitVec.eq_of_toNat_eq
      have : 2 ^ w < 2 ^ 64 := Nat.pow_lt_pow_right (by decide) hw
      have : 0 < 2 ^ w := Nat.two_pow_pos w
      simp [lowOnes, BitVec.toNat_sub, Nat.shiftLeft_eq]
      omega
    rw [e, BitVec.getLsbD_ofNat, Nat.testBit_two_pow_sub_one, Bool.and_comm]
  · have e : lowOnes w = BitVec.allOnes 64 := by
      show (1 : Word) <<< w - 1 = BitVec.allOnes 64
      rw [BitVec.shiftLeft_eq_zero (by omega)]; decide
    rw [e, BitVec.getLsbD_allOnes]; by_cases h : n < 64
    · have : n < w := by omega
      simp [h, this]
    · simp [h]

theorem Field.getLsbD_mask (F : Field) (n : Nat) :
    F.mask.getLsbD n = (decide (F.lo ≤ n) && decide (n - F.lo < F.width) && decide (n < 64)) := by
  simp only [Field.mask, BitVec.getLsbD_shiftLeft, getLsbD_lowOnes]
  by_cases h2 : n < 64
  · have : n - F.lo < 64 := by omega
    by_cases h : n < F.lo
    · have : ¬ F.lo ≤ n := by omega
      simp [*]
    · have : F.lo ≤ n := by omega
      simp [*]
  · simp [h2]

/-- 40_codec_capabilities.md R200. -/
@[simp] theorem getLsbD_getField (v : Word) (F : Field) (n : Nat) :
    (getField v F).getLsbD n = (decide (n < F.width) && v.getLsbD (F.lo + n)) := by
  by_cases h : n < 64
  · simp only [getField, BitVec.getLsbD_and, BitVec.getLsbD_ushiftRight, getLsbD_lowOnes, h, decide_true, Bool.and_true]
    rw [Bool.and_comm]
  · have h1 : 64 ≤ F.lo + n := by omega
    rw [BitVec.getLsbD_of_ge _ _ (by omega), BitVec.getLsbD_of_ge v _ h1]; simp

/-- 40_codec_capabilities.md R201. -/
@[simp] theorem getLsbD_setField (w v : Word) (F : Field) (n : Nat) :
    (setField w F v).getLsbD n =
      if F.lo ≤ n ∧ n - F.lo < F.width then decide (n < 64) && v.getLsbD (n - F.lo) else w.getLsbD n := by
  simp only [setField, BitVec.getLsbD_or, BitVec.getLsbD_and, BitVec.getLsbD_not, Field.getLsbD_mask,
    BitVec.getLsbD_shiftLeft]
  by_cases h : n < 64
  · by_cases h1 : F.lo ≤ n
    · by_cases h2 : n - F.lo < F.width
      · simp [h, h1, h2]
      · simp [h, h1, h2]
    · simp [h, h1]
  · rw [BitVec.getLsbD_of_ge w _ (by omega)]; simp [h]

/-- A one-bit field is 1 exactly when its bit is set. -/
theorem getField_bit_eq_one (v : Word) (k : Nat) : getField v (.bit k) = 1 ↔ v.getLsbD k = true := by
  constructor
  · intro h
    have := getLsbD_getField v (.bit k) 0
    rw [h] at this
    simpa [Field.bit, Field.width] using this.symm
  · intro h
    apply BitVec.eq_of_getLsbD_eq
    intro n _
    by_cases h0 : n = 0
    · subst h0; simp [Field.bit, Field.width, h]
    · simp [Field.bit, Field.width, h0]; 

/-- A two-bit field by its two bits. -/
theorem getField_pair (v : Word) (k : Nat) (c : Word) (hc : c.toNat < 4) :
    getField v ⟨k + 1, k⟩ = c ↔ v.getLsbD k = c.getLsbD 0 ∧ v.getLsbD (k + 1) = c.getLsbD 1 := by
  have bit := getLsbD_getField v ⟨k + 1, k⟩
  constructor
  · intro h
    rw [h] at bit
    exact ⟨by simpa [Field.width] using (bit 0).symm, by simpa [Field.width] using (bit 1).symm⟩
  · rintro ⟨h0, h1⟩
    apply BitVec.eq_of_getLsbD_eq
    intro n _
    rw [bit n]
    match n with
    | 0 => simpa [Field.width] using h0
    | 1 => simpa [Field.width] using h1
    | m + 2 =>
      have : c.getLsbD (m + 2) = false :=
        Nat.testBit_lt_two_pow (Nat.lt_of_lt_of_le hc (Nat.pow_le_pow_right (n := 2) (by decide) (by omega : 2 ≤ m + 2)))
      rw [this]; simp [Field.width]

/-- FS or XS is Dirty, by their bits (10_state.md R39). -/
theorem isDirty_eq (m : Word) :
    isDirty m = ((m.getLsbD 13 && m.getLsbD 14) || (m.getLsbD 15 && m.getLsbD 16)) := by
  have h1 : getField m Mstatus.fs = ExtStatus.dirty.code ↔ _ := getField_pair m 13 3 (by decide)
  have h2 : getField m Mstatus.xs = ExtStatus.dirty.code ↔ _ := getField_pair m 15 3 (by decide)
  simp only [isDirty, h1, h2]
  simp

/-- SD is derived, every other bit stays (10_state.md R39). -/
@[simp] theorem getLsbD_withSd (x : Xlen) (m : Word) (n : Nat) :
    (withSd x m).getLsbD n = if n = x.bits - 1 then isDirty m else m.getLsbD n := by
  have h1 := x.bits_le
  have h2 := x.bits_pos
  simp only [withSd, getLsbD_setField, Mstatus.sd, Field.bit, Field.width, getLsbD_flagWord]
  by_cases h : n = x.bits - 1
  · subst h; simp; omega
  · rw [if_neg (by omega), if_neg h]

@[simp] theorem getLsbD_mergeBits (wm old v : Word) (n : Nat) :
    (mergeBits wm old v).getLsbD n = if wm.getLsbD n then v.getLsbD n else old.getLsbD n := by
  by_cases h : n < 64
  · simp only [mergeBits, BitVec.getLsbD_or, BitVec.getLsbD_and, BitVec.getLsbD_not, h, decide_true, Bool.true_and]
    cases wm.getLsbD n <;> simp
  · simp [BitVec.getLsbD_of_ge _ n (by omega : 64 ≤ n)]

/-- Two words with the same bits are equal. -/
theorem word_ext {v w : Word} (h : ∀ n < 64, v.getLsbD n = w.getLsbD n) : v = w :=
  BitVec.eq_of_getLsbD_eq fun n hn => h n hn

/-- A word has no bit outside a mask exactly when each of its bits is in the mask. -/
theorem and_not_eq_zero_iff (v k : Word) :
    v &&& ~~~k = 0 ↔ ∀ n < 64, k.getLsbD n = false → v.getLsbD n = false := by
  have bit (n : Nat) (hn : n < 64) : (v &&& ~~~k).getLsbD n = (v.getLsbD n && !k.getLsbD n) := by
    simp only [BitVec.getLsbD_and, BitVec.getLsbD_not, hn, decide_true, Bool.true_and]
  constructor
  · intro h n hn hk
    have := bit n hn
    rw [h, hk] at this
    simpa using this.symm
  · intro h
    apply word_ext
    intro n hn
    rw [bit n hn]
    cases hk : k.getLsbD n
    · rw [h n hn hk]; simp
    · simp

end Machine

end Sys2Proof
end

