-- ==== Sys2Proof/Laws/Contract.lean ====
section
/-! SUPPORT. The host's contract passes from a list of entries to the entries that are left after the first. -/

namespace Sys2Proof.Machine

/-- What the host may send after boot it may send at boot. -/
theorem Request.allowed_boot {r : Request} (h : r.allowed false = true) : r.allowed true = true := by
  cases r with
  | command p =>
    simp only [Request.allowed, hostMaySend] at h ⊢
    split at h <;> simp_all
  | instruction => rfl
  | interrupt => rfl
  | exception => rfl

/-- RESET is no command the host may send after the first entry. -/
theorem afterReset_of_allowed {r : Request} {rest : List Request} (h : r.allowed true = true) :
    afterReset (r :: rest) = r :: rest := by
  cases r with
  | command p =>
    simp only [afterReset]
    split
    · rename_i hp
      rw [Request.allowed, hp] at h
      exact absurd h (by decide)
    · rfl
  | instruction => rfl
  | interrupt => rfl
  | exception => rfl

theorem phases_head {r : Request} {rest : List Request} (h : phases (r :: rest) = true) : r.allowed true = true := by
  unfold phases at h
  cases hc : r.isCommand <;> simp [hc] at h
  · exact Request.allowed_boot h.1
  · exact h.1.1

theorem phases_of_allowed {l : List Request} (h : l.all (Request.allowed false) = true) : phases l = true := by
  simp only [phases, Bool.and_eq_true, List.all_eq_true] at h ⊢
  exact ⟨fun r hr => Request.allowed_boot (h r (List.takeWhile_prefix _ |>.subset hr)),
    fun r hr => h r (List.dropWhile_suffix _ |>.subset hr)⟩

theorem phases_tail {r : Request} {rest : List Request} (h : phases (r :: rest) = true) : phases rest = true := by
  cases hc : r.isCommand
  · refine phases_of_allowed ?_
    simp [phases, hc] at h
    simpa using h.2
  · simp [phases, hc] at h
    simpa [phases] using ⟨h.1.2, h.2⟩

theorem afterReset_of_phases {l : List Request} (h : phases l = true) : afterReset l = l := by
  cases l with
  | nil => rfl
  | cons r rest => exact afterReset_of_allowed (phases_head h)

/-- A host that keeps its contract over a list keeps it over what is left when the first entry has run. -/
theorem hostContract_tail {b f : Bool} {r : Request} {rest : List Request}
    (h : hostContract b f (r :: rest) = true) : hostContract b f rest = true := by
  unfold hostContract at h ⊢
  rw [Bool.and_eq_true] at h ⊢
  refine ⟨?_, ?_⟩
  · have hp := h.1
    have ht : phases rest = true := by
      by_cases he : afterReset (r :: rest) = rest
      · rwa [he] at hp
      · have : afterReset (r :: rest) = r :: rest := by
          cases r with
          | command p =>
            simp only [afterReset] at he ⊢
            split
            · rename_i hq; simp [hq] at he
            · rfl
          | instruction => rfl
          | interrupt => rfl
          | exception => rfl
        rw [this] at hp; exact phases_tail hp
    rwa [afterReset_of_phases ht]
  · have := h.2
    rw [List.all_cons, Bool.and_eq_true] at this
    exact this.2

end Sys2Proof.Machine
end

