-- ==== Sys2Proof/Laws/CsrMap.lean ====
section
/-! SUPPORT. The address maps are inverse to the numbers of R125, R130 and R131: a lookup gives a register exactly when the
number is that register's. Proofs cite these and never search the lists. -/

namespace Sys2Proof

theorem Csr.mem_all (c : Csr) : c ∈ Csr.all := by cases c <;> decide

@[simp] theorem Csr.ofAddr_addr (c : Csr) : Csr.ofAddr c.addr = some c := by cases c <;> rfl

theorem Csr.ofAddr_eq_some_iff (a : BitVec 12) (c : Csr) : Csr.ofAddr a = some c ↔ c.addr = a := by
  constructor
  · intro h
    simpa using List.find?_some h
  · rintro rfl
    exact c.ofAddr_addr

theorem Csr.ofAddr_eq_none_iff (a : BitVec 12) : Csr.ofAddr a = none ↔ ∀ c : Csr, c.addr ≠ a := by
  rw [Csr.ofAddr, List.find?_eq_none]
  simp [Csr.mem_all]

theorem IntReg.mem_all (r : IntReg) : r ∈ IntReg.all := by cases r <;> decide

@[simp] theorem IntReg.ofSel_sel (r : IntReg) : IntReg.ofSel r.sel = some r := by cases r <;> rfl

theorem IntReg.ofSel_eq_some_iff (a : BitVec 12) (r : IntReg) : IntReg.ofSel a = some r ↔ r.sel = a := by
  constructor
  · intro h
    simpa using List.find?_some h
  · rintro rfl
    exact r.ofSel_sel

theorem IntReg.ofSel_eq_none_iff (a : BitVec 12) : IntReg.ofSel a = none ↔ ∀ r : IntReg, r.sel ≠ a := by
  rw [IntReg.ofSel, List.find?_eq_none]
  simp [IntReg.mem_all]

theorem Ext.mem_all (e : Ext) : e ∈ Ext.all := by cases e <;> decide

@[simp] theorem Ext.ofId_id (e : Ext) : Ext.ofId e.id = some e := by cases e <;> rfl

theorem Ext.ofId_eq_some_iff (k : BitVec 4) (e : Ext) : Ext.ofId k = some e ↔ e.id = k := by
  constructor
  · intro h
    simpa using List.find?_some h
  · rintro rfl
    exact e.ofId_id

theorem Ext.ofId_eq_none_iff (k : BitVec 4) : Ext.ofId k = none ↔ ∀ e : Ext, e.id ≠ k := by
  rw [Ext.ofId, List.find?_eq_none]
  simp [Ext.mem_all]

end Sys2Proof
end

