-- ==== Sys2Proof/Laws/Decode.lean ====
section
/-! SUPPORT. The fields of command words and of SYSTEM words: a word is put together from its fields and taken apart into
them, and neither loses a bit (30_encoding.md R122, 45_host_ports.md section 6). -/

namespace Sys2Proof

theorem getLsbD_cmdWord (op sub : BitVec 4) (addr : BitVec 12) (n : Nat) :
    (cmdWord op sub addr).getLsbD n =
      if n < 12 then addr.getLsbD n
      else if n < 24 then false
      else if n < 28 then sub.getLsbD (n - 24) else op.getLsbD (n - 28) := by
  have h₁ := BitVec.getLsbD_append (x := op ++ sub ++ 0#12) (y := addr) (i := n)
  have h₂ := BitVec.getLsbD_append (x := op ++ sub) (y := 0#12) (i := n - 12)
  have h₃ := BitVec.getLsbD_append (x := op) (y := sub) (i := n - 12 - 12)
  rw [show n - 12 - 12 = n - 24 by omega, show n - 24 - 4 = n - 28 by omega] at h₃
  rw [show n - 12 - 12 = n - 24 by omega, h₃] at h₂
  rw [h₂] at h₁
  refine h₁.trans ?_
  by_cases a : n < 12
  · simp [a]
  · by_cases b : n < 24
    · simp [a, b, show n - 12 < 12 by omega]
    · by_cases c : n < 28
      · simp [a, b, c, show ¬ n - 12 < 12 by omega, show n - 24 < 4 by omega]
      · simp [a, b, c, show ¬ n - 12 < 12 by omega, show ¬ n - 24 < 4 by omega]

@[simp] theorem cmdOp_cmdWord (op sub : BitVec 4) (addr : BitVec 12) : cmdOp (cmdWord op sub addr) = op := by
  apply BitVec.eq_of_getLsbD_eq
  intro n hn
  rw [cmdOp, BitVec.getLsbD_extractLsb', getLsbD_cmdWord]
  simp only [hn, decide_true, Bool.true_and, show ¬ 28 + n < 12 by omega, show ¬ 28 + n < 24 by omega,
    show ¬ 28 + n < 28 by omega, if_false, Nat.add_sub_cancel_left]

@[simp] theorem cmdSub_cmdWord (op sub : BitVec 4) (addr : BitVec 12) : cmdSub (cmdWord op sub addr) = sub := by
  apply BitVec.eq_of_getLsbD_eq
  intro n hn
  rw [cmdSub, BitVec.getLsbD_extractLsb', getLsbD_cmdWord]
  simp only [hn, decide_true, Bool.true_and, show ¬ 24 + n < 12 by omega, show ¬ 24 + n < 24 by omega,
    show 24 + n < 28 by omega, if_false, if_true, Nat.add_sub_cancel_left]

@[simp] theorem cmdRsv_cmdWord (op sub : BitVec 4) (addr : BitVec 12) : cmdRsv (cmdWord op sub addr) = 0 := by
  apply BitVec.eq_of_getLsbD_eq
  intro n hn
  rw [cmdRsv, BitVec.getLsbD_extractLsb', getLsbD_cmdWord]
  simp [show ¬ 12 + n < 12 by omega, show 12 + n < 24 by omega]

@[simp] theorem cmdAddr_cmdWord (op sub : BitVec 4) (addr : BitVec 12) : cmdAddr (cmdWord op sub addr) = addr := by
  apply BitVec.eq_of_getLsbD_eq
  intro n hn
  rw [cmdAddr, BitVec.getLsbD_extractLsb', getLsbD_cmdWord]
  simp only [hn, decide_true, Bool.true_and, Nat.zero_add, if_true]

/-- A word whose RSV is 0 is the word of its other fields. -/
theorem cmdWord_fields {w : BitVec 32} (h : cmdRsv w = 0) : cmdWord (cmdOp w) (cmdSub w) (cmdAddr w) = w := by
  apply BitVec.eq_of_getLsbD_eq
  intro n hn
  rw [getLsbD_cmdWord]
  by_cases a : n < 12
  · simp only [a, if_true, cmdAddr, BitVec.getLsbD_extractLsb', decide_true, Bool.true_and, Nat.zero_add]
  · by_cases b : n < 24
    · have hb := congrArg (fun v : BitVec 12 => v.getLsbD (n - 12)) h
      simp only [cmdRsv, BitVec.getLsbD_extractLsb', show n - 12 < 12 by omega, show 12 + (n - 12) = n by omega,
        decide_true, Bool.true_and] at hb
      simp only [a, b, if_true, if_false, hb]
      exact BitVec.getLsbD_zero.symm
    · by_cases c : n < 28
      · simp only [a, b, c, if_true, if_false, cmdSub, BitVec.getLsbD_extractLsb', show n - 24 < 4 by omega,
          show 24 + (n - 24) = n by omega, decide_true, Bool.true_and]
      · simp only [a, b, c, if_false, cmdOp, BitVec.getLsbD_extractLsb', show n - 28 < 4 by omega,
          show 28 + (n - 28) = n by omega, decide_true, Bool.true_and]

theorem getLsbD_systemWord (hi : BitVec 12) (rs1 : BitVec 5) (f : BitVec 3) (rd : BitVec 5) (n : Nat) :
    (systemWord hi rs1 f rd).getLsbD n =
      if n < 7 then systemOpcode.getLsbD n
      else if n < 12 then rd.getLsbD (n - 7)
      else if n < 15 then f.getLsbD (n - 12)
      else if n < 20 then rs1.getLsbD (n - 15) else hi.getLsbD (n - 20) := by
  have h₁ := BitVec.getLsbD_append (x := hi ++ rs1 ++ f ++ rd) (y := systemOpcode) (i := n)
  have h₂ := BitVec.getLsbD_append (x := hi ++ rs1 ++ f) (y := rd) (i := n - 7)
  have h₃ := BitVec.getLsbD_append (x := hi ++ rs1) (y := f) (i := n - 7 - 5)
  have h₄ := BitVec.getLsbD_append (x := hi) (y := rs1) (i := n - 7 - 5 - 3)
  rw [show n - 7 - 5 - 3 = n - 15 by omega, show n - 15 - 5 = n - 20 by omega] at h₄
  rw [show n - 7 - 5 - 3 = n - 15 by omega, show n - 7 - 5 = n - 12 by omega, h₄] at h₃
  rw [show n - 7 - 5 = n - 12 by omega, h₃] at h₂
  rw [h₂] at h₁
  refine h₁.trans ?_
  by_cases a : n < 7
  · simp [a]
  · by_cases b : n < 12
    · simp [a, b, show n - 7 < 5 by omega]
    · by_cases c : n < 15
      · simp [a, b, c, show ¬ n - 7 < 5 by omega, show n - 12 < 3 by omega]
      · by_cases d : n < 20
        · simp [a, b, c, d, show ¬ n - 7 < 5 by omega, show ¬ n - 12 < 3 by omega, show n - 15 < 5 by omega]
        · simp [a, b, c, d, show ¬ n - 7 < 5 by omega, show ¬ n - 12 < 3 by omega, show ¬ n - 15 < 5 by omega]

theorem opcode_systemWord (hi : BitVec 12) (rs1 : BitVec 5) (f : BitVec 3) (rd : BitVec 5) :
    (systemWord hi rs1 f rd).extractLsb' 0 7 = systemOpcode := by
  apply BitVec.eq_of_getLsbD_eq
  intro n hn
  rw [BitVec.getLsbD_extractLsb', getLsbD_systemWord]
  simp only [hn, decide_true, Bool.true_and, Nat.zero_add, if_true]

theorem rd_systemWord (hi : BitVec 12) (rs1 : BitVec 5) (f : BitVec 3) (rd : BitVec 5) :
    (systemWord hi rs1 f rd).extractLsb' 7 5 = rd := by
  apply BitVec.eq_of_getLsbD_eq
  intro n hn
  rw [BitVec.getLsbD_extractLsb', getLsbD_systemWord]
  simp only [hn, decide_true, Bool.true_and, show ¬ 7 + n < 7 by omega, show 7 + n < 12 by omega, if_false, if_true,
    Nat.add_sub_cancel_left]

theorem funct3_systemWord (hi : BitVec 12) (rs1 : BitVec 5) (f : BitVec 3) (rd : BitVec 5) :
    (systemWord hi rs1 f rd).extractLsb' 12 3 = f := by
  apply BitVec.eq_of_getLsbD_eq
  intro n hn
  rw [BitVec.getLsbD_extractLsb', getLsbD_systemWord]
  simp only [hn, decide_true, Bool.true_and, show ¬ 12 + n < 7 by omega, show ¬ 12 + n < 12 by omega,
    show 12 + n < 15 by omega, if_false, if_true, Nat.add_sub_cancel_left]

theorem rs1_systemWord (hi : BitVec 12) (rs1 : BitVec 5) (f : BitVec 3) (rd : BitVec 5) :
    (systemWord hi rs1 f rd).extractLsb' 15 5 = rs1 := by
  apply BitVec.eq_of_getLsbD_eq
  intro n hn
  rw [BitVec.getLsbD_extractLsb', getLsbD_systemWord]
  simp only [hn, decide_true, Bool.true_and, show ¬ 15 + n < 7 by omega, show ¬ 15 + n < 12 by omega,
    show ¬ 15 + n < 15 by omega, show 15 + n < 20 by omega, if_false, if_true, Nat.add_sub_cancel_left]

theorem hi_systemWord (hi : BitVec 12) (rs1 : BitVec 5) (f : BitVec 3) (rd : BitVec 5) :
    (systemWord hi rs1 f rd).extractLsb' 20 12 = hi := by
  apply BitVec.eq_of_getLsbD_eq
  intro n hn
  rw [BitVec.getLsbD_extractLsb', getLsbD_systemWord]
  simp only [hn, decide_true, Bool.true_and, show ¬ 20 + n < 7 by omega, show ¬ 20 + n < 12 by omega,
    show ¬ 20 + n < 15 by omega, show ¬ 20 + n < 20 by omega, if_false, Nat.add_sub_cancel_left]

/-- A word with the SYSTEM opcode is the word of its other fields. -/
theorem systemWord_fields {w : BitVec 32} (h : w.extractLsb' 0 7 = systemOpcode) :
    systemWord (w.extractLsb' 20 12) (w.extractLsb' 15 5) (w.extractLsb' 12 3) (w.extractLsb' 7 5) = w := by
  apply BitVec.eq_of_getLsbD_eq
  intro n hn
  rw [getLsbD_systemWord, ← h]
  simp only [BitVec.getLsbD_extractLsb']
  by_cases a : n < 7
  · simp only [a, if_true, decide_true, Bool.true_and, Nat.zero_add]
  · by_cases b : n < 12
    · simp only [a, b, if_true, if_false, show n - 7 < 5 by omega, show 7 + (n - 7) = n by omega, decide_true,
        Bool.true_and]
    · by_cases c : n < 15
      · simp only [a, b, c, if_true, if_false, show n - 12 < 3 by omega, show 12 + (n - 12) = n by omega, decide_true,
          Bool.true_and]
      · by_cases d : n < 20
        · simp only [a, b, c, d, if_true, if_false, show n - 15 < 5 by omega, show 15 + (n - 15) = n by omega,
            decide_true, Bool.true_and]
        · simp only [a, b, c, d, if_false, show n - 20 < 12 by omega, show 20 + (n - 20) = n by omega, decide_true,
            Bool.true_and]

theorem csrReadRow_addr (c : Csr) : csrReadRow c.addr = c.readInstr := by simp [csrReadRow]

theorem csrWriteRow_addr (c : Csr) : csrWriteRow c.addr = c.writeInstr := by simp [csrWriteRow]

theorem csrReadRow_unassigned {addr : BitVec 12} (h : unassigned addr = true) :
    csrReadRow addr = .csrReadUnassigned addr := by
  rw [csrReadRow, Option.isNone_iff_eq_none.1 h]

theorem csrWriteRow_unassigned {addr : BitVec 12} (h : unassigned addr = true) :
    csrWriteRow addr = .csrWriteUnassigned addr := by
  rw [csrWriteRow, Option.isNone_iff_eq_none.1 h]

end Sys2Proof
end

