-- ==== Sys2Proof/Laws/State.lean ====
section
/-! SUPPORT. One lemma per field and named update of State: what the update leaves there. No later proof unfolds a
record update. -/

namespace Sys2Proof.Machine

/-! ### State.respond -/

@[simp] theorem State.respond_params (s : State) (d : Option Word) : (s.respond d).params = s.params := rfl
@[simp] theorem State.respond_misa (s : State) (d : Option Word) : (s.respond d).misa = s.misa := rfl
@[simp] theorem State.respond_mstatus (s : State) (d : Option Word) : (s.respond d).mstatus = s.mstatus := rfl
@[simp] theorem State.respond_mip (s : State) (d : Option Word) : (s.respond d).mip = s.mip := rfl
@[simp] theorem State.respond_mie (s : State) (d : Option Word) : (s.respond d).mie = s.mie := rfl
@[simp] theorem State.respond_mideleg (s : State) (d : Option Word) : (s.respond d).mideleg = s.mideleg := rfl
@[simp] theorem State.respond_medeleg (s : State) (d : Option Word) : (s.respond d).medeleg = s.medeleg := rfl
@[simp] theorem State.respond_mtvec (s : State) (d : Option Word) : (s.respond d).mtvec = s.mtvec := rfl
@[simp] theorem State.respond_stvec (s : State) (d : Option Word) : (s.respond d).stvec = s.stvec := rfl
@[simp] theorem State.respond_mcause (s : State) (d : Option Word) : (s.respond d).mcause = s.mcause := rfl
@[simp] theorem State.respond_scause (s : State) (d : Option Word) : (s.respond d).scause = s.scause := rfl
@[simp] theorem State.respond_mepc (s : State) (d : Option Word) : (s.respond d).mepc = s.mepc := rfl
@[simp] theorem State.respond_sepc (s : State) (d : Option Word) : (s.respond d).sepc = s.sepc := rfl
@[simp] theorem State.respond_mtval (s : State) (d : Option Word) : (s.respond d).mtval = s.mtval := rfl
@[simp] theorem State.respond_stval (s : State) (d : Option Word) : (s.respond d).stval = s.stval := rfl
@[simp] theorem State.respond_mscratch (s : State) (d : Option Word) : (s.respond d).mscratch = s.mscratch := rfl
@[simp] theorem State.respond_sscratch (s : State) (d : Option Word) : (s.respond d).sscratch = s.sscratch := rfl
@[simp] theorem State.respond_mcounteren (s : State) (d : Option Word) :
    (s.respond d).mcounteren = s.mcounteren := rfl
@[simp] theorem State.respond_scounteren (s : State) (d : Option Word) :
    (s.respond d).scounteren = s.scounteren := rfl
@[simp] theorem State.respond_mcountinhibit (s : State) (d : Option Word) :
    (s.respond d).mcountinhibit = s.mcountinhibit := rfl
@[simp] theorem State.respond_satp (s : State) (d : Option Word) : (s.respond d).satp = s.satp := rfl
@[simp] theorem State.respond_mcycle (s : State) (d : Option Word) : (s.respond d).mcycle = s.mcycle := rfl
@[simp] theorem State.respond_mtime (s : State) (d : Option Word) : (s.respond d).mtime = s.mtime := rfl
@[simp] theorem State.respond_minstret (s : State) (d : Option Word) : (s.respond d).minstret = s.minstret := rfl
@[simp] theorem State.respond_minstretWritten (s : State) (d : Option Word) :
    (s.respond d).minstretWritten = s.minstretWritten := rfl
@[simp] theorem State.respond_tselect (s : State) (d : Option Word) : (s.respond d).tselect = s.tselect := rfl
@[simp] theorem State.respond_curPrivilege (s : State) (d : Option Word) :
    (s.respond d).curPrivilege = s.curPrivilege := rfl
@[simp] theorem State.respond_curInst (s : State) (d : Option Word) : (s.respond d).curInst = s.curInst := rfl
@[simp] theorem State.respond_faulted (s : State) (d : Option Word) : (s.respond d).faulted = s.faulted := rfl
@[simp] theorem State.respond_port (s : State) (d : Option Word) : (s.respond d).port = s.port := rfl
@[simp] theorem State.respond_out (s : State) (d : Option Word) : (s.respond d).out = .ok d := rfl
@[simp] theorem State.respond_pc (s : State) (d : Option Word) : (s.respond d).pc = s.pc := rfl
@[simp] theorem State.respond_x (s : State) (d : Option Word) : (s.respond d).x = s.x := rfl
@[simp] theorem State.respond_pending (s : State) (d : Option Word) : (s.respond d).pending = s.pending := rfl

/-! ### State.reject -/

@[simp] theorem State.reject_params (s : State) (r : RejectReason) : (s.reject r).params = s.params := rfl
@[simp] theorem State.reject_misa (s : State) (r : RejectReason) : (s.reject r).misa = s.misa := rfl
@[simp] theorem State.reject_mstatus (s : State) (r : RejectReason) : (s.reject r).mstatus = s.mstatus := rfl
@[simp] theorem State.reject_mip (s : State) (r : RejectReason) : (s.reject r).mip = s.mip := rfl
@[simp] theorem State.reject_mie (s : State) (r : RejectReason) : (s.reject r).mie = s.mie := rfl
@[simp] theorem State.reject_mideleg (s : State) (r : RejectReason) : (s.reject r).mideleg = s.mideleg := rfl
@[simp] theorem State.reject_medeleg (s : State) (r : RejectReason) : (s.reject r).medeleg = s.medeleg := rfl
@[simp] theorem State.reject_mtvec (s : State) (r : RejectReason) : (s.reject r).mtvec = s.mtvec := rfl
@[simp] theorem State.reject_stvec (s : State) (r : RejectReason) : (s.reject r).stvec = s.stvec := rfl
@[simp] theorem State.reject_mcause (s : State) (r : RejectReason) : (s.reject r).mcause = s.mcause := rfl
@[simp] theorem State.reject_scause (s : State) (r : RejectReason) : (s.reject r).scause = s.scause := rfl
@[simp] theorem State.reject_mepc (s : State) (r : RejectReason) : (s.reject r).mepc = s.mepc := rfl
@[simp] theorem State.reject_sepc (s : State) (r : RejectReason) : (s.reject r).sepc = s.sepc := rfl
@[simp] theorem State.reject_mtval (s : State) (r : RejectReason) : (s.reject r).mtval = s.mtval := rfl
@[simp] theorem State.reject_stval (s : State) (r : RejectReason) : (s.reject r).stval = s.stval := rfl
@[simp] theorem State.reject_mscratch (s : State) (r : RejectReason) : (s.reject r).mscratch = s.mscratch := rfl
@[simp] theorem State.reject_sscratch (s : State) (r : RejectReason) : (s.reject r).sscratch = s.sscratch := rfl
@[simp] theorem State.reject_mcounteren (s : State) (r : RejectReason) : (s.reject r).mcounteren = s.mcounteren := rfl
@[simp] theorem State.reject_scounteren (s : State) (r : RejectReason) : (s.reject r).scounteren = s.scounteren := rfl
@[simp] theorem State.reject_mcountinhibit (s : State) (r : RejectReason) :
    (s.reject r).mcountinhibit = s.mcountinhibit := rfl
@[simp] theorem State.reject_satp (s : State) (r : RejectReason) : (s.reject r).satp = s.satp := rfl
@[simp] theorem State.reject_mcycle (s : State) (r : RejectReason) : (s.reject r).mcycle = s.mcycle := rfl
@[simp] theorem State.reject_mtime (s : State) (r : RejectReason) : (s.reject r).mtime = s.mtime := rfl
@[simp] theorem State.reject_minstret (s : State) (r : RejectReason) : (s.reject r).minstret = s.minstret := rfl
@[simp] theorem State.reject_minstretWritten (s : State) (r : RejectReason) :
    (s.reject r).minstretWritten = s.minstretWritten := rfl
@[simp] theorem State.reject_tselect (s : State) (r : RejectReason) : (s.reject r).tselect = s.tselect := rfl
@[simp] theorem State.reject_curPrivilege (s : State) (r : RejectReason) :
    (s.reject r).curPrivilege = s.curPrivilege := rfl
@[simp] theorem State.reject_curInst (s : State) (r : RejectReason) : (s.reject r).curInst = s.curInst := rfl
@[simp] theorem State.reject_faulted (s : State) (r : RejectReason) : (s.reject r).faulted = s.faulted := rfl
@[simp] theorem State.reject_port (s : State) (r : RejectReason) : (s.reject r).port = s.port := rfl
@[simp] theorem State.reject_out (s : State) (r : RejectReason) : (s.reject r).out = .rejected r := rfl
@[simp] theorem State.reject_pc (s : State) (r : RejectReason) : (s.reject r).pc = s.pc := rfl
@[simp] theorem State.reject_x (s : State) (r : RejectReason) : (s.reject r).x = s.x := rfl
@[simp] theorem State.reject_pending (s : State) (r : RejectReason) : (s.reject r).pending = s.pending := rfl

/-! ### State.fail -/

@[simp] theorem State.fail_params (s : State) (r : FaultReason) : (s.fail r).params = s.params := rfl
@[simp] theorem State.fail_misa (s : State) (r : FaultReason) : (s.fail r).misa = s.misa := rfl
@[simp] theorem State.fail_mstatus (s : State) (r : FaultReason) : (s.fail r).mstatus = s.mstatus := rfl
@[simp] theorem State.fail_mip (s : State) (r : FaultReason) : (s.fail r).mip = s.mip := rfl
@[simp] theorem State.fail_mie (s : State) (r : FaultReason) : (s.fail r).mie = s.mie := rfl
@[simp] theorem State.fail_mideleg (s : State) (r : FaultReason) : (s.fail r).mideleg = s.mideleg := rfl
@[simp] theorem State.fail_medeleg (s : State) (r : FaultReason) : (s.fail r).medeleg = s.medeleg := rfl
@[simp] theorem State.fail_mtvec (s : State) (r : FaultReason) : (s.fail r).mtvec = s.mtvec := rfl
@[simp] theorem State.fail_stvec (s : State) (r : FaultReason) : (s.fail r).stvec = s.stvec := rfl
@[simp] theorem State.fail_mcause (s : State) (r : FaultReason) : (s.fail r).mcause = s.mcause := rfl
@[simp] theorem State.fail_scause (s : State) (r : FaultReason) : (s.fail r).scause = s.scause := rfl
@[simp] theorem State.fail_mepc (s : State) (r : FaultReason) : (s.fail r).mepc = s.mepc := rfl
@[simp] theorem State.fail_sepc (s : State) (r : FaultReason) : (s.fail r).sepc = s.sepc := rfl
@[simp] theorem State.fail_mtval (s : State) (r : FaultReason) : (s.fail r).mtval = s.mtval := rfl
@[simp] theorem State.fail_stval (s : State) (r : FaultReason) : (s.fail r).stval = s.stval := rfl
@[simp] theorem State.fail_mscratch (s : State) (r : FaultReason) : (s.fail r).mscratch = s.mscratch := rfl
@[simp] theorem State.fail_sscratch (s : State) (r : FaultReason) : (s.fail r).sscratch = s.sscratch := rfl
@[simp] theorem State.fail_mcounteren (s : State) (r : FaultReason) : (s.fail r).mcounteren = s.mcounteren := rfl
@[simp] theorem State.fail_scounteren (s : State) (r : FaultReason) : (s.fail r).scounteren = s.scounteren := rfl
@[simp] theorem State.fail_mcountinhibit (s : State) (r : FaultReason) :
    (s.fail r).mcountinhibit = s.mcountinhibit := rfl
@[simp] theorem State.fail_satp (s : State) (r : FaultReason) : (s.fail r).satp = s.satp := rfl
@[simp] theorem State.fail_mcycle (s : State) (r : FaultReason) : (s.fail r).mcycle = s.mcycle := rfl
@[simp] theorem State.fail_mtime (s : State) (r : FaultReason) : (s.fail r).mtime = s.mtime := rfl
@[simp] theorem State.fail_minstret (s : State) (r : FaultReason) : (s.fail r).minstret = s.minstret := rfl
@[simp] theorem State.fail_minstretWritten (s : State) (r : FaultReason) :
    (s.fail r).minstretWritten = s.minstretWritten := rfl
@[simp] theorem State.fail_tselect (s : State) (r : FaultReason) : (s.fail r).tselect = s.tselect := rfl
@[simp] theorem State.fail_curPrivilege (s : State) (r : FaultReason) :
    (s.fail r).curPrivilege = s.curPrivilege := rfl
@[simp] theorem State.fail_curInst (s : State) (r : FaultReason) : (s.fail r).curInst = s.curInst := rfl
@[simp] theorem State.fail_faulted (s : State) (r : FaultReason) : (s.fail r).faulted = true := rfl
@[simp] theorem State.fail_port (s : State) (r : FaultReason) : (s.fail r).port = s.port := rfl
@[simp] theorem State.fail_out (s : State) (r : FaultReason) : (s.fail r).out = .fault r := rfl
@[simp] theorem State.fail_pc (s : State) (r : FaultReason) : (s.fail r).pc = s.pc := rfl
@[simp] theorem State.fail_x (s : State) (r : FaultReason) : (s.fail r).x = s.x := rfl
@[simp] theorem State.fail_pending (s : State) (r : FaultReason) : (s.fail r).pending = s.pending := rfl

/-! ### State.setPc -/

@[simp] theorem State.setPc_params (s : State) (a : Word) : (s.setPc a).params = s.params := rfl
@[simp] theorem State.setPc_misa (s : State) (a : Word) : (s.setPc a).misa = s.misa := rfl
@[simp] theorem State.setPc_mstatus (s : State) (a : Word) : (s.setPc a).mstatus = s.mstatus := rfl
@[simp] theorem State.setPc_mip (s : State) (a : Word) : (s.setPc a).mip = s.mip := rfl
@[simp] theorem State.setPc_mie (s : State) (a : Word) : (s.setPc a).mie = s.mie := rfl
@[simp] theorem State.setPc_mideleg (s : State) (a : Word) : (s.setPc a).mideleg = s.mideleg := rfl
@[simp] theorem State.setPc_medeleg (s : State) (a : Word) : (s.setPc a).medeleg = s.medeleg := rfl
@[simp] theorem State.setPc_mtvec (s : State) (a : Word) : (s.setPc a).mtvec = s.mtvec := rfl
@[simp] theorem State.setPc_stvec (s : State) (a : Word) : (s.setPc a).stvec = s.stvec := rfl
@[simp] theorem State.setPc_mcause (s : State) (a : Word) : (s.setPc a).mcause = s.mcause := rfl
@[simp] theorem State.setPc_scause (s : State) (a : Word) : (s.setPc a).scause = s.scause := rfl
@[simp] theorem State.setPc_mepc (s : State) (a : Word) : (s.setPc a).mepc = s.mepc := rfl
@[simp] theorem State.setPc_sepc (s : State) (a : Word) : (s.setPc a).sepc = s.sepc := rfl
@[simp] theorem State.setPc_mtval (s : State) (a : Word) : (s.setPc a).mtval = s.mtval := rfl
@[simp] theorem State.setPc_stval (s : State) (a : Word) : (s.setPc a).stval = s.stval := rfl
@[simp] theorem State.setPc_mscratch (s : State) (a : Word) : (s.setPc a).mscratch = s.mscratch := rfl
@[simp] theorem State.setPc_sscratch (s : State) (a : Word) : (s.setPc a).sscratch = s.sscratch := rfl
@[simp] theorem State.setPc_mcounteren (s : State) (a : Word) : (s.setPc a).mcounteren = s.mcounteren := rfl
@[simp] theorem State.setPc_scounteren (s : State) (a : Word) : (s.setPc a).scounteren = s.scounteren := rfl
@[simp] theorem State.setPc_mcountinhibit (s : State) (a : Word) : (s.setPc a).mcountinhibit = s.mcountinhibit := rfl
@[simp] theorem State.setPc_satp (s : State) (a : Word) : (s.setPc a).satp = s.satp := rfl
@[simp] theorem State.setPc_mcycle (s : State) (a : Word) : (s.setPc a).mcycle = s.mcycle := rfl
@[simp] theorem State.setPc_mtime (s : State) (a : Word) : (s.setPc a).mtime = s.mtime := rfl
@[simp] theorem State.setPc_minstret (s : State) (a : Word) : (s.setPc a).minstret = s.minstret := rfl
@[simp] theorem State.setPc_minstretWritten (s : State) (a : Word) :
    (s.setPc a).minstretWritten = s.minstretWritten := rfl
@[simp] theorem State.setPc_tselect (s : State) (a : Word) : (s.setPc a).tselect = s.tselect := rfl
@[simp] theorem State.setPc_curPrivilege (s : State) (a : Word) : (s.setPc a).curPrivilege = s.curPrivilege := rfl
@[simp] theorem State.setPc_curInst (s : State) (a : Word) : (s.setPc a).curInst = s.curInst := rfl
@[simp] theorem State.setPc_faulted (s : State) (a : Word) : (s.setPc a).faulted = s.faulted := rfl
@[simp] theorem State.setPc_port (s : State) (a : Word) : (s.setPc a).port = s.port := rfl
@[simp] theorem State.setPc_out (s : State) (a : Word) : (s.setPc a).out = s.out := rfl
@[simp] theorem State.setPc_pc (s : State) (a : Word) : (s.setPc a).pc = a := rfl
@[simp] theorem State.setPc_x (s : State) (a : Word) : (s.setPc a).x = s.x := rfl
@[simp] theorem State.setPc_pending (s : State) (a : Word) : (s.setPc a).pending = s.pending := rfl

/-! ### State.load -/

@[simp] theorem State.load_params (s : State) (p : Inputs) (rest : List Request) :
    (s.load p rest).params = s.params := rfl
@[simp] theorem State.load_misa (s : State) (p : Inputs) (rest : List Request) : (s.load p rest).misa = s.misa := rfl
@[simp] theorem State.load_mstatus (s : State) (p : Inputs) (rest : List Request) :
    (s.load p rest).mstatus = s.mstatus := rfl
@[simp] theorem State.load_mip (s : State) (p : Inputs) (rest : List Request) : (s.load p rest).mip = s.mip := rfl
@[simp] theorem State.load_mie (s : State) (p : Inputs) (rest : List Request) : (s.load p rest).mie = s.mie := rfl
@[simp] theorem State.load_mideleg (s : State) (p : Inputs) (rest : List Request) :
    (s.load p rest).mideleg = s.mideleg := rfl
@[simp] theorem State.load_medeleg (s : State) (p : Inputs) (rest : List Request) :
    (s.load p rest).medeleg = s.medeleg := rfl
@[simp] theorem State.load_mtvec (s : State) (p : Inputs) (rest : List Request) :
    (s.load p rest).mtvec = s.mtvec := rfl
@[simp] theorem State.load_stvec (s : State) (p : Inputs) (rest : List Request) :
    (s.load p rest).stvec = s.stvec := rfl
@[simp] theorem State.load_mcause (s : State) (p : Inputs) (rest : List Request) :
    (s.load p rest).mcause = s.mcause := rfl
@[simp] theorem State.load_scause (s : State) (p : Inputs) (rest : List Request) :
    (s.load p rest).scause = s.scause := rfl
@[simp] theorem State.load_mepc (s : State) (p : Inputs) (rest : List Request) : (s.load p rest).mepc = s.mepc := rfl
@[simp] theorem State.load_sepc (s : State) (p : Inputs) (rest : List Request) : (s.load p rest).sepc = s.sepc := rfl
@[simp] theorem State.load_mtval (s : State) (p : Inputs) (rest : List Request) :
    (s.load p rest).mtval = s.mtval := rfl
@[simp] theorem State.load_stval (s : State) (p : Inputs) (rest : List Request) :
    (s.load p rest).stval = s.stval := rfl
@[simp] theorem State.load_mscratch (s : State) (p : Inputs) (rest : List Request) :
    (s.load p rest).mscratch = s.mscratch := rfl
@[simp] theorem State.load_sscratch (s : State) (p : Inputs) (rest : List Request) :
    (s.load p rest).sscratch = s.sscratch := rfl
@[simp] theorem State.load_mcounteren (s : State) (p : Inputs) (rest : List Request) :
    (s.load p rest).mcounteren = s.mcounteren := rfl
@[simp] theorem State.load_scounteren (s : State) (p : Inputs) (rest : List Request) :
    (s.load p rest).scounteren = s.scounteren := rfl
@[simp] theorem State.load_mcountinhibit (s : State) (p : Inputs) (rest : List Request) :
    (s.load p rest).mcountinhibit = s.mcountinhibit := rfl
@[simp] theorem State.load_satp (s : State) (p : Inputs) (rest : List Request) : (s.load p rest).satp = s.satp := rfl
@[simp] theorem State.load_mcycle (s : State) (p : Inputs) (rest : List Request) :
    (s.load p rest).mcycle = s.mcycle := rfl
@[simp] theorem State.load_mtime (s : State) (p : Inputs) (rest : List Request) :
    (s.load p rest).mtime = s.mtime := rfl
@[simp] theorem State.load_minstret (s : State) (p : Inputs) (rest : List Request) :
    (s.load p rest).minstret = s.minstret := rfl
@[simp] theorem State.load_minstretWritten (s : State) (p : Inputs) (rest : List Request) :
    (s.load p rest).minstretWritten = s.minstretWritten := rfl
@[simp] theorem State.load_tselect (s : State) (p : Inputs) (rest : List Request) :
    (s.load p rest).tselect = s.tselect := rfl
@[simp] theorem State.load_curPrivilege (s : State) (p : Inputs) (rest : List Request) :
    (s.load p rest).curPrivilege = s.curPrivilege := rfl
@[simp] theorem State.load_curInst (s : State) (p : Inputs) (rest : List Request) :
    (s.load p rest).curInst = s.curInst := rfl
@[simp] theorem State.load_faulted (s : State) (p : Inputs) (rest : List Request) :
    (s.load p rest).faulted = s.faulted := rfl
@[simp] theorem State.load_port (s : State) (p : Inputs) (rest : List Request) : (s.load p rest).port = p := rfl
@[simp] theorem State.load_out (s : State) (p : Inputs) (rest : List Request) : (s.load p rest).out = s.out := rfl
@[simp] theorem State.load_pc (s : State) (p : Inputs) (rest : List Request) : (s.load p rest).pc = s.pc := rfl
@[simp] theorem State.load_x (s : State) (p : Inputs) (rest : List Request) : (s.load p rest).x = s.x := rfl
@[simp] theorem State.load_pending (s : State) (p : Inputs) (rest : List Request) :
    (s.load p rest).pending = rest := rfl

/-! ### enterMachine -/

@[simp] theorem enterMachine_params (s : State) (cause tval epc : Word) :
    (enterMachine cause tval epc s).params = s.params := rfl
@[simp] theorem enterMachine_misa (s : State) (cause tval epc : Word) :
    (enterMachine cause tval epc s).misa = s.misa := rfl
@[simp] theorem enterMachine_mstatus (s : State) (cause tval epc : Word) :
    (enterMachine cause tval epc s).mstatus = machineTrapStatus s.params.xlen s.curPrivilege s.mstatus := rfl
@[simp] theorem enterMachine_mip (s : State) (cause tval epc : Word) :
    (enterMachine cause tval epc s).mip = s.mip := rfl
@[simp] theorem enterMachine_mie (s : State) (cause tval epc : Word) :
    (enterMachine cause tval epc s).mie = s.mie := rfl
@[simp] theorem enterMachine_mideleg (s : State) (cause tval epc : Word) :
    (enterMachine cause tval epc s).mideleg = s.mideleg := rfl
@[simp] theorem enterMachine_medeleg (s : State) (cause tval epc : Word) :
    (enterMachine cause tval epc s).medeleg = s.medeleg := rfl
@[simp] theorem enterMachine_mtvec (s : State) (cause tval epc : Word) :
    (enterMachine cause tval epc s).mtvec = s.mtvec := rfl
@[simp] theorem enterMachine_stvec (s : State) (cause tval epc : Word) :
    (enterMachine cause tval epc s).stvec = s.stvec := rfl
@[simp] theorem enterMachine_mcause (s : State) (cause tval epc : Word) :
    (enterMachine cause tval epc s).mcause = cause := rfl
@[simp] theorem enterMachine_scause (s : State) (cause tval epc : Word) :
    (enterMachine cause tval epc s).scause = s.scause := rfl
@[simp] theorem enterMachine_mepc (s : State) (cause tval epc : Word) :
    (enterMachine cause tval epc s).mepc = epc := rfl
@[simp] theorem enterMachine_sepc (s : State) (cause tval epc : Word) :
    (enterMachine cause tval epc s).sepc = s.sepc := rfl
@[simp] theorem enterMachine_mtval (s : State) (cause tval epc : Word) :
    (enterMachine cause tval epc s).mtval = tval := rfl
@[simp] theorem enterMachine_stval (s : State) (cause tval epc : Word) :
    (enterMachine cause tval epc s).stval = s.stval := rfl
@[simp] theorem enterMachine_mscratch (s : State) (cause tval epc : Word) :
    (enterMachine cause tval epc s).mscratch = s.mscratch := rfl
@[simp] theorem enterMachine_sscratch (s : State) (cause tval epc : Word) :
    (enterMachine cause tval epc s).sscratch = s.sscratch := rfl
@[simp] theorem enterMachine_mcounteren (s : State) (cause tval epc : Word) :
    (enterMachine cause tval epc s).mcounteren = s.mcounteren := rfl
@[simp] theorem enterMachine_scounteren (s : State) (cause tval epc : Word) :
    (enterMachine cause tval epc s).scounteren = s.scounteren := rfl
@[simp] theorem enterMachine_mcountinhibit (s : State) (cause tval epc : Word) :
    (enterMachine cause tval epc s).mcountinhibit = s.mcountinhibit := rfl
@[simp] theorem enterMachine_satp (s : State) (cause tval epc : Word) :
    (enterMachine cause tval epc s).satp = s.satp := rfl
@[simp] theorem enterMachine_mcycle (s : State) (cause tval epc : Word) :
    (enterMachine cause tval epc s).mcycle = s.mcycle := rfl
@[simp] theorem enterMachine_mtime (s : State) (cause tval epc : Word) :
    (enterMachine cause tval epc s).mtime = s.mtime := rfl
@[simp] theorem enterMachine_minstret (s : State) (cause tval epc : Word) :
    (enterMachine cause tval epc s).minstret = s.minstret := rfl
@[simp] theorem enterMachine_minstretWritten (s : State) (cause tval epc : Word) :
    (enterMachine cause tval epc s).minstretWritten = s.minstretWritten := rfl
@[simp] theorem enterMachine_tselect (s : State) (cause tval epc : Word) :
    (enterMachine cause tval epc s).tselect = s.tselect := rfl
@[simp] theorem enterMachine_curPrivilege (s : State) (cause tval epc : Word) :
    (enterMachine cause tval epc s).curPrivilege = .machine := rfl
@[simp] theorem enterMachine_curInst (s : State) (cause tval epc : Word) :
    (enterMachine cause tval epc s).curInst = s.curInst := rfl
@[simp] theorem enterMachine_faulted (s : State) (cause tval epc : Word) :
    (enterMachine cause tval epc s).faulted = s.faulted := rfl
@[simp] theorem enterMachine_port (s : State) (cause tval epc : Word) :
    (enterMachine cause tval epc s).port = s.port := rfl
@[simp] theorem enterMachine_out (s : State) (cause tval epc : Word) :
    (enterMachine cause tval epc s).out = s.out := rfl
@[simp] theorem enterMachine_pc (s : State) (cause tval epc : Word) : (enterMachine cause tval epc s).pc = s.pc := rfl
@[simp] theorem enterMachine_x (s : State) (cause tval epc : Word) : (enterMachine cause tval epc s).x = s.x := rfl
@[simp] theorem enterMachine_pending (s : State) (cause tval epc : Word) :
    (enterMachine cause tval epc s).pending = s.pending := rfl

/-! ### enterSupervisor -/

@[simp] theorem enterSupervisor_params (s : State) (cause tval epc : Word) :
    (enterSupervisor cause tval epc s).params = s.params := rfl
@[simp] theorem enterSupervisor_misa (s : State) (cause tval epc : Word) :
    (enterSupervisor cause tval epc s).misa = s.misa := rfl
@[simp] theorem enterSupervisor_mstatus (s : State) (cause tval epc : Word) :
    (enterSupervisor cause tval epc s).mstatus = supervisorTrapStatus s.params.xlen s.curPrivilege s.mstatus := rfl
@[simp] theorem enterSupervisor_mip (s : State) (cause tval epc : Word) :
    (enterSupervisor cause tval epc s).mip = s.mip := rfl
@[simp] theorem enterSupervisor_mie (s : State) (cause tval epc : Word) :
    (enterSupervisor cause tval epc s).mie = s.mie := rfl
@[simp] theorem enterSupervisor_mideleg (s : State) (cause tval epc : Word) :
    (enterSupervisor cause tval epc s).mideleg = s.mideleg := rfl
@[simp] theorem enterSupervisor_medeleg (s : State) (cause tval epc : Word) :
    (enterSupervisor cause tval epc s).medeleg = s.medeleg := rfl
@[simp] theorem enterSupervisor_mtvec (s : State) (cause tval epc : Word) :
    (enterSupervisor cause tval epc s).mtvec = s.mtvec := rfl
@[simp] theorem enterSupervisor_stvec (s : State) (cause tval epc : Word) :
    (enterSupervisor cause tval epc s).stvec = s.stvec := rfl
@[simp] theorem enterSupervisor_mcause (s : State) (cause tval epc : Word) :
    (enterSupervisor cause tval epc s).mcause = s.mcause := rfl
@[simp] theorem enterSupervisor_scause (s : State) (cause tval epc : Word) :
    (enterSupervisor cause tval epc s).scause = cause := rfl
@[simp] theorem enterSupervisor_mepc (s : State) (cause tval epc : Word) :
    (enterSupervisor cause tval epc s).mepc = s.mepc := rfl
@[simp] theorem enterSupervisor_sepc (s : State) (cause tval epc : Word) :
    (enterSupervisor cause tval epc s).sepc = epc := rfl
@[simp] theorem enterSupervisor_mtval (s : State) (cause tval epc : Word) :
    (enterSupervisor cause tval epc s).mtval = s.mtval := rfl
@[simp] theorem enterSupervisor_stval (s : State) (cause tval epc : Word) :
    (enterSupervisor cause tval epc s).stval = tval := rfl
@[simp] theorem enterSupervisor_mscratch (s : State) (cause tval epc : Word) :
    (enterSupervisor cause tval epc s).mscratch = s.mscratch := rfl
@[simp] theorem enterSupervisor_sscratch (s : State) (cause tval epc : Word) :
    (enterSupervisor cause tval epc s).sscratch = s.sscratch := rfl
@[simp] theorem enterSupervisor_mcounteren (s : State) (cause tval epc : Word) :
    (enterSupervisor cause tval epc s).mcounteren = s.mcounteren := rfl
@[simp] theorem enterSupervisor_scounteren (s : State) (cause tval epc : Word) :
    (enterSupervisor cause tval epc s).scounteren = s.scounteren := rfl
@[simp] theorem enterSupervisor_mcountinhibit (s : State) (cause tval epc : Word) :
    (enterSupervisor cause tval epc s).mcountinhibit = s.mcountinhibit := rfl
@[simp] theorem enterSupervisor_satp (s : State) (cause tval epc : Word) :
    (enterSupervisor cause tval epc s).satp = s.satp := rfl
@[simp] theorem enterSupervisor_mcycle (s : State) (cause tval epc : Word) :
    (enterSupervisor cause tval epc s).mcycle = s.mcycle := rfl
@[simp] theorem enterSupervisor_mtime (s : State) (cause tval epc : Word) :
    (enterSupervisor cause tval epc s).mtime = s.mtime := rfl
@[simp] theorem enterSupervisor_minstret (s : State) (cause tval epc : Word) :
    (enterSupervisor cause tval epc s).minstret = s.minstret := rfl
@[simp] theorem enterSupervisor_minstretWritten (s : State) (cause tval epc : Word) :
    (enterSupervisor cause tval epc s).minstretWritten = s.minstretWritten := rfl
@[simp] theorem enterSupervisor_tselect (s : State) (cause tval epc : Word) :
    (enterSupervisor cause tval epc s).tselect = s.tselect := rfl
@[simp] theorem enterSupervisor_curPrivilege (s : State) (cause tval epc : Word) :
    (enterSupervisor cause tval epc s).curPrivilege = .supervisor := rfl
@[simp] theorem enterSupervisor_curInst (s : State) (cause tval epc : Word) :
    (enterSupervisor cause tval epc s).curInst = s.curInst := rfl
@[simp] theorem enterSupervisor_faulted (s : State) (cause tval epc : Word) :
    (enterSupervisor cause tval epc s).faulted = s.faulted := rfl
@[simp] theorem enterSupervisor_port (s : State) (cause tval epc : Word) :
    (enterSupervisor cause tval epc s).port = s.port := rfl
@[simp] theorem enterSupervisor_out (s : State) (cause tval epc : Word) :
    (enterSupervisor cause tval epc s).out = s.out := rfl
@[simp] theorem enterSupervisor_pc (s : State) (cause tval epc : Word) :
    (enterSupervisor cause tval epc s).pc = s.pc := rfl
@[simp] theorem enterSupervisor_x (s : State) (cause tval epc : Word) :
    (enterSupervisor cause tval epc s).x = s.x := rfl
@[simp] theorem enterSupervisor_pending (s : State) (cause tval epc : Word) :
    (enterSupervisor cause tval epc s).pending = s.pending := rfl

/-! ### State.writeX -/

@[simp] theorem State.writeX_params (s : State) (r : BitVec 5) (v : Word) :
    (s.writeX r v).params = s.params := by unfold State.writeX; split <;> rfl
@[simp] theorem State.writeX_misa (s : State) (r : BitVec 5) (v : Word) :
    (s.writeX r v).misa = s.misa := by unfold State.writeX; split <;> rfl
@[simp] theorem State.writeX_mstatus (s : State) (r : BitVec 5) (v : Word) :
    (s.writeX r v).mstatus = s.mstatus := by unfold State.writeX; split <;> rfl
@[simp] theorem State.writeX_mip (s : State) (r : BitVec 5) (v : Word) :
    (s.writeX r v).mip = s.mip := by unfold State.writeX; split <;> rfl
@[simp] theorem State.writeX_mie (s : State) (r : BitVec 5) (v : Word) :
    (s.writeX r v).mie = s.mie := by unfold State.writeX; split <;> rfl
@[simp] theorem State.writeX_mideleg (s : State) (r : BitVec 5) (v : Word) :
    (s.writeX r v).mideleg = s.mideleg := by unfold State.writeX; split <;> rfl
@[simp] theorem State.writeX_medeleg (s : State) (r : BitVec 5) (v : Word) :
    (s.writeX r v).medeleg = s.medeleg := by unfold State.writeX; split <;> rfl
@[simp] theorem State.writeX_mtvec (s : State) (r : BitVec 5) (v : Word) :
    (s.writeX r v).mtvec = s.mtvec := by unfold State.writeX; split <;> rfl
@[simp] theorem State.writeX_stvec (s : State) (r : BitVec 5) (v : Word) :
    (s.writeX r v).stvec = s.stvec := by unfold State.writeX; split <;> rfl
@[simp] theorem State.writeX_mcause (s : State) (r : BitVec 5) (v : Word) :
    (s.writeX r v).mcause = s.mcause := by unfold State.writeX; split <;> rfl
@[simp] theorem State.writeX_scause (s : State) (r : BitVec 5) (v : Word) :
    (s.writeX r v).scause = s.scause := by unfold State.writeX; split <;> rfl
@[simp] theorem State.writeX_mepc (s : State) (r : BitVec 5) (v : Word) :
    (s.writeX r v).mepc = s.mepc := by unfold State.writeX; split <;> rfl
@[simp] theorem State.writeX_sepc (s : State) (r : BitVec 5) (v : Word) :
    (s.writeX r v).sepc = s.sepc := by unfold State.writeX; split <;> rfl
@[simp] theorem State.writeX_mtval (s : State) (r : BitVec 5) (v : Word) :
    (s.writeX r v).mtval = s.mtval := by unfold State.writeX; split <;> rfl
@[simp] theorem State.writeX_stval (s : State) (r : BitVec 5) (v : Word) :
    (s.writeX r v).stval = s.stval := by unfold State.writeX; split <;> rfl
@[simp] theorem State.writeX_mscratch (s : State) (r : BitVec 5) (v : Word) :
    (s.writeX r v).mscratch = s.mscratch := by unfold State.writeX; split <;> rfl
@[simp] theorem State.writeX_sscratch (s : State) (r : BitVec 5) (v : Word) :
    (s.writeX r v).sscratch = s.sscratch := by unfold State.writeX; split <;> rfl
@[simp] theorem State.writeX_mcounteren (s : State) (r : BitVec 5) (v : Word) :
    (s.writeX r v).mcounteren = s.mcounteren := by unfold State.writeX; split <;> rfl
@[simp] theorem State.writeX_scounteren (s : State) (r : BitVec 5) (v : Word) :
    (s.writeX r v).scounteren = s.scounteren := by unfold State.writeX; split <;> rfl
@[simp] theorem State.writeX_mcountinhibit (s : State) (r : BitVec 5) (v : Word) :
    (s.writeX r v).mcountinhibit = s.mcountinhibit := by unfold State.writeX; split <;> rfl
@[simp] theorem State.writeX_satp (s : State) (r : BitVec 5) (v : Word) :
    (s.writeX r v).satp = s.satp := by unfold State.writeX; split <;> rfl
@[simp] theorem State.writeX_mcycle (s : State) (r : BitVec 5) (v : Word) :
    (s.writeX r v).mcycle = s.mcycle := by unfold State.writeX; split <;> rfl
@[simp] theorem State.writeX_mtime (s : State) (r : BitVec 5) (v : Word) :
    (s.writeX r v).mtime = s.mtime := by unfold State.writeX; split <;> rfl
@[simp] theorem State.writeX_minstret (s : State) (r : BitVec 5) (v : Word) :
    (s.writeX r v).minstret = s.minstret := by unfold State.writeX; split <;> rfl
@[simp] theorem State.writeX_minstretWritten (s : State) (r : BitVec 5) (v : Word) :
    (s.writeX r v).minstretWritten = s.minstretWritten := by unfold State.writeX; split <;> rfl
@[simp] theorem State.writeX_tselect (s : State) (r : BitVec 5) (v : Word) :
    (s.writeX r v).tselect = s.tselect := by unfold State.writeX; split <;> rfl
@[simp] theorem State.writeX_curPrivilege (s : State) (r : BitVec 5) (v : Word) :
    (s.writeX r v).curPrivilege = s.curPrivilege := by unfold State.writeX; split <;> rfl
@[simp] theorem State.writeX_curInst (s : State) (r : BitVec 5) (v : Word) :
    (s.writeX r v).curInst = s.curInst := by unfold State.writeX; split <;> rfl
@[simp] theorem State.writeX_faulted (s : State) (r : BitVec 5) (v : Word) :
    (s.writeX r v).faulted = s.faulted := by unfold State.writeX; split <;> rfl
@[simp] theorem State.writeX_port (s : State) (r : BitVec 5) (v : Word) :
    (s.writeX r v).port = s.port := by unfold State.writeX; split <;> rfl
@[simp] theorem State.writeX_out (s : State) (r : BitVec 5) (v : Word) :
    (s.writeX r v).out = s.out := by unfold State.writeX; split <;> rfl
@[simp] theorem State.writeX_pc (s : State) (r : BitVec 5) (v : Word) :
    (s.writeX r v).pc = s.pc := by unfold State.writeX; split <;> rfl
@[simp] theorem State.writeX_x (s : State) (r : BitVec 5) (v : Word) :
    (s.writeX r v).x = if r = 0 then s.x else s.x.set r.toNat v r.isLt := by unfold State.writeX; split <;> rfl
@[simp] theorem State.writeX_pending (s : State) (r : BitVec 5) (v : Word) :
    (s.writeX r v).pending = s.pending := by unfold State.writeX; split <;> rfl

/-! ### State.noteInstr -/

@[simp] theorem State.noteInstr_params (s : State) (w : BitVec 32) : (s.noteInstr w).params = s.params := rfl
@[simp] theorem State.noteInstr_misa (s : State) (w : BitVec 32) : (s.noteInstr w).misa = s.misa := rfl
@[simp] theorem State.noteInstr_mstatus (s : State) (w : BitVec 32) : (s.noteInstr w).mstatus = s.mstatus := rfl
@[simp] theorem State.noteInstr_mip (s : State) (w : BitVec 32) : (s.noteInstr w).mip = s.mip := rfl
@[simp] theorem State.noteInstr_mie (s : State) (w : BitVec 32) : (s.noteInstr w).mie = s.mie := rfl
@[simp] theorem State.noteInstr_mideleg (s : State) (w : BitVec 32) : (s.noteInstr w).mideleg = s.mideleg := rfl
@[simp] theorem State.noteInstr_medeleg (s : State) (w : BitVec 32) : (s.noteInstr w).medeleg = s.medeleg := rfl
@[simp] theorem State.noteInstr_mtvec (s : State) (w : BitVec 32) : (s.noteInstr w).mtvec = s.mtvec := rfl
@[simp] theorem State.noteInstr_stvec (s : State) (w : BitVec 32) : (s.noteInstr w).stvec = s.stvec := rfl
@[simp] theorem State.noteInstr_mcause (s : State) (w : BitVec 32) : (s.noteInstr w).mcause = s.mcause := rfl
@[simp] theorem State.noteInstr_scause (s : State) (w : BitVec 32) : (s.noteInstr w).scause = s.scause := rfl
@[simp] theorem State.noteInstr_mepc (s : State) (w : BitVec 32) : (s.noteInstr w).mepc = s.mepc := rfl
@[simp] theorem State.noteInstr_sepc (s : State) (w : BitVec 32) : (s.noteInstr w).sepc = s.sepc := rfl
@[simp] theorem State.noteInstr_mtval (s : State) (w : BitVec 32) : (s.noteInstr w).mtval = s.mtval := rfl
@[simp] theorem State.noteInstr_stval (s : State) (w : BitVec 32) : (s.noteInstr w).stval = s.stval := rfl
@[simp] theorem State.noteInstr_mscratch (s : State) (w : BitVec 32) : (s.noteInstr w).mscratch = s.mscratch := rfl
@[simp] theorem State.noteInstr_sscratch (s : State) (w : BitVec 32) : (s.noteInstr w).sscratch = s.sscratch := rfl
@[simp] theorem State.noteInstr_mcounteren (s : State) (w : BitVec 32) :
    (s.noteInstr w).mcounteren = s.mcounteren := rfl
@[simp] theorem State.noteInstr_scounteren (s : State) (w : BitVec 32) :
    (s.noteInstr w).scounteren = s.scounteren := rfl
@[simp] theorem State.noteInstr_mcountinhibit (s : State) (w : BitVec 32) :
    (s.noteInstr w).mcountinhibit = s.mcountinhibit := rfl
@[simp] theorem State.noteInstr_satp (s : State) (w : BitVec 32) : (s.noteInstr w).satp = s.satp := rfl
@[simp] theorem State.noteInstr_mcycle (s : State) (w : BitVec 32) : (s.noteInstr w).mcycle = s.mcycle := rfl
@[simp] theorem State.noteInstr_mtime (s : State) (w : BitVec 32) : (s.noteInstr w).mtime = s.mtime := rfl
@[simp] theorem State.noteInstr_minstret (s : State) (w : BitVec 32) : (s.noteInstr w).minstret = s.minstret := rfl
@[simp] theorem State.noteInstr_minstretWritten (s : State) (w : BitVec 32) :
    (s.noteInstr w).minstretWritten = s.minstretWritten := rfl
@[simp] theorem State.noteInstr_tselect (s : State) (w : BitVec 32) : (s.noteInstr w).tselect = s.tselect := rfl
@[simp] theorem State.noteInstr_curPrivilege (s : State) (w : BitVec 32) :
    (s.noteInstr w).curPrivilege = s.curPrivilege := rfl
@[simp] theorem State.noteInstr_faulted (s : State) (w : BitVec 32) : (s.noteInstr w).faulted = s.faulted := rfl
@[simp] theorem State.noteInstr_port (s : State) (w : BitVec 32) : (s.noteInstr w).port = s.port := rfl
@[simp] theorem State.noteInstr_out (s : State) (w : BitVec 32) : (s.noteInstr w).out = s.out := rfl
@[simp] theorem State.noteInstr_pc (s : State) (w : BitVec 32) : (s.noteInstr w).pc = s.pc := rfl
@[simp] theorem State.noteInstr_x (s : State) (w : BitVec 32) : (s.noteInstr w).x = s.x := rfl
@[simp] theorem State.noteInstr_pending (s : State) (w : BitVec 32) : (s.noteInstr w).pending = s.pending := rfl
@[simp] theorem State.noteInstr_curInst (s : State) (w : BitVec 32) :
    (s.noteInstr w).curInst = if s.faulted then s.curInst else w.setWidth 64 := rfl

end Sys2Proof.Machine
end

