-- ==== Sys2Proof/Laws/Ops.lean ====
section
/-! SUPPORT. One lemma for each shared operation: everything it can do to a state. A command answers Halted, or runs its
body; a read, a check or a query only answers; a write, a trap, a return and RETIRE take one of the forms listed. Proofs
cite these and unfold no operation. -/

namespace Sys2Proof.Machine

/-! ### Commands -/

theorem State.command_running {s : State} (h : s.faulted = false) (f : State → State) : s.command f = f s := by
  simp [State.command, h]

theorem State.command_halted {s : State} (h : s.faulted = true) (f : State → State) :
    s.command f = { s with out := .fault .halted } := by
  simp [State.command, h]

theorem State.command_cases (s : State) (f : State → State) :
    (s.faulted = true ∧ s.command f = { s with out := .fault .halted }) ∨
      (s.faulted = false ∧ s.command f = f s) := by
  by_cases h : s.faulted = true
  · exact .inl ⟨h, State.command_halted h f⟩
  · have h := Bool.eq_false_iff.2 h
    exact .inr ⟨h, State.command_running h f⟩

/-- `t` is `s` but for the response, and the response is a fault only if the block had faulted before. -/
structure Answers (s t : State) : Prop where
  frame : t = { s with out := t.out }
  fault : ∀ r, t.out = .fault r → s.faulted = true

theorem Answers.respond (s : State) (d : Option Word) : Answers s (s.respond d) := ⟨rfl, fun _ h => by cases h⟩

theorem Answers.reject (s : State) (r : RejectReason) : Answers s (s.reject r) := ⟨rfl, fun _ h => by cases h⟩

theorem Answers.halted {s t : State} (hf : s.faulted = true) (h : t = { s with out := .fault .halted }) : Answers s t := by
  subst h; exact ⟨rfl, fun _ _ => hf⟩

/-- A command whose body only answers only answers. -/
theorem State.command_answers {f : State → State} (hf : ∀ s, Answers s (f s)) (s : State) : Answers s (s.command f) := by
  rcases s.command_cases f with ⟨hs, h⟩ | ⟨-, h⟩
  · exact .halted hs h
  · rw [h]; exact hf s

/-! ### Reads, checks and queries -/

theorem csrRead_answers (c : Csr) (s : State) : Answers s (csrRead c s) := by
  refine State.command_answers (fun s => ?_) s
  split
  · exact .respond _ _
  · exact .reject _ _

theorem csrRead_running {c : Csr} {s : State} (h : s.faulted = false) (ha : c.assignedAt s.params.xlen = true) :
    csrRead c s = s.respond (some (readCsr c s)) := by
  simp [csrRead, State.command_running h, ha]

theorem noSuchCsr_answers (s : State) : Answers s (noSuchCsr s) :=
  State.command_answers (fun s => .reject s _) s

theorem rawRead_answers (addr : BitVec 12) (s : State) : Answers s (rawRead addr s) := by
  refine State.command_answers (fun s => ?_) s
  split
  · exact .reject _ _
  · split
    · exact .reject _ _
    · split
      · exact .reject _ _
      · exact .respond _ _

theorem rawRead_running {c : Csr} {s : State} (h : s.faulted = false) (ha : c.assignedAt s.params.xlen = true)
    (hv : c.isView = false) : rawRead c.addr s = s.respond (some (rawValue c s)) := by
  simp [rawRead, State.command_running h, ha, hv]

theorem intRead_answers (r : IntReg) (s : State) : Answers s (intRead r s) :=
  State.command_answers (fun s => .respond s _) s

theorem accessCheck_answers (w : Bool) (addr : BitVec 12) (s : State) :
    Answers s (accessCheck w addr s) :=
  State.command_answers (fun s => .respond s _) s

theorem tvecAddrMachine_answers (s : State) : Answers s (tvecAddrMachine s) :=
  State.command_answers (fun s => .respond s _) s

theorem tvecAddrSupervisor_answers (s : State) : Answers s (tvecAddrSupervisor s) :=
  State.command_answers (fun s => .respond s _) s

theorem pcAlignMask_answers (s : State) : Answers s (pcAlignMask s) :=
  State.command_answers (fun s => .respond s _) s

theorem haveExt_answers (e : Ext) (s : State) : Answers s (haveExt e s) :=
  State.command_answers (fun s => .respond s _) s

/-- EFF_PRIV answers, or halts the block where it meets MPP = 0b10 (43_resolvers.md R341). -/
theorem effPriv_cases (k : AccessKind) (s : State) :
    Answers s (effPriv k s) ∨
      (effectivePrivilege k s = none ∧ effPriv k s = s.fail .invalidPrivilege) := by
  rcases s.command_cases _ with ⟨hs, h⟩ | ⟨-, h⟩
  · exact .inl (.halted hs h)
  · cases hk : effectivePrivilege k s with
    | some p => exact .inl (by rw [effPriv, h, hk]; exact .respond _ _)
    | none => exact .inr ⟨rfl, by rw [effPriv, h, hk]⟩

/-- CUR_ARCH answers, or halts the block where the code names no width (43_resolvers.md R343). -/
theorem curArch_cases (s : State) :
    Answers s (curArch s) ∨ (currentArchitecture s = none ∧ curArch s = s.fail .invalidArch) := by
  rcases s.command_cases _ with ⟨hs, h⟩ | ⟨-, h⟩
  · exact .inl (.halted hs h)
  · cases hk : currentArchitecture s with
    | some a => exact .inl (by rw [curArch, h, hk]; exact .respond _ _)
    | none => exact .inr ⟨rfl, by rw [curArch, h, hk]⟩

/-! ### Writes -/

theorem csrWrite_cases (c : Csr) (p : Inputs) (s : State) :
    Answers s (csrWrite c p s) ∨
      (s.faulted = false ∧ c.assignedAt s.params.xlen = true ∧ csrWrite c p s = writeCsr c p s) := by
  rcases s.command_cases _ with ⟨hs, h⟩ | ⟨hf, h⟩
  · exact .inl (.halted hs h)
  · cases ha : c.assignedAt s.params.xlen
    · exact .inl (by rw [csrWrite, h, ha]; exact .reject _ _)
    · exact .inr ⟨hf, rfl, by rw [csrWrite, h, ha]; rfl⟩

theorem csrWrite_running {c : Csr} {s : State} (p : Inputs) (h : s.faulted = false)
    (ha : c.assignedAt s.params.xlen = true) : csrWrite c p s = writeCsr c p s := by
  simp [csrWrite, State.command_running h, ha]

/-- What a CSR write changes at most, register by register; the rest of the state is as before. -/
theorem writeCsr_frame (c : Csr) (p : Inputs) (s : State) :
    writeCsr c p s =
      { s with
        misa := if c = .misa then (writeCsr c p s).misa else s.misa
        mstatus := if c = .mstatus ∨ c = .sstatus then (writeCsr c p s).mstatus else s.mstatus
        mip := if c = .mip ∨ c = .sip then (writeCsr c p s).mip else s.mip
        mie := if c = .mie ∨ c = .sie then (writeCsr c p s).mie else s.mie
        mideleg := if c = .mideleg ∨ c = .sideleg then (writeCsr c p s).mideleg else s.mideleg
        medeleg := if c = .medeleg ∨ c = .sedeleg then (writeCsr c p s).medeleg else s.medeleg
        mtvec := if c = .mtvec then (writeCsr c p s).mtvec else s.mtvec
        stvec := if c = .stvec then (writeCsr c p s).stvec else s.stvec
        mcause := if c = .mcause then (writeCsr c p s).mcause else s.mcause
        scause := if c = .scause then (writeCsr c p s).scause else s.scause
        mepc := if c = .mepc then (writeCsr c p s).mepc else s.mepc
        sepc := if c = .sepc then (writeCsr c p s).sepc else s.sepc
        mtval := if c = .mtval then (writeCsr c p s).mtval else s.mtval
        stval := if c = .stval then (writeCsr c p s).stval else s.stval
        mscratch := if c = .mscratch then (writeCsr c p s).mscratch else s.mscratch
        sscratch := if c = .sscratch then (writeCsr c p s).sscratch else s.sscratch
        mcounteren := if c = .mcounteren then (writeCsr c p s).mcounteren else s.mcounteren
        scounteren := if c = .scounteren then (writeCsr c p s).scounteren else s.scounteren
        mcountinhibit := if c = .mcountinhibit then (writeCsr c p s).mcountinhibit else s.mcountinhibit
        satp := if c = .satp then (writeCsr c p s).satp else s.satp
        mcycle := if c = .mcycle ∨ c = .mcycleh then (writeCsr c p s).mcycle else s.mcycle
        minstret := if c = .minstret ∨ c = .minstreth then (writeCsr c p s).minstret else s.minstret
        minstretWritten := if c = .minstret ∨ c = .minstreth then true else s.minstretWritten
        tselect := if c = .tselect then (writeCsr c p s).tselect else s.tselect
        faulted := if c = .satp then (writeCsr c p s).faulted else s.faulted
        out := (writeCsr c p s).out } := by
  cases c
  case satp =>
    simp only [writeCsr, writeSatp]
    split
    · rfl
    · split <;> rfl
  all_goals rfl

/-- The response of a CSR write the block performs: Ok, a read-only register's rejection, or satp's fault. -/
theorem writeCsr_out (c : Csr) (p : Inputs) (s : State) :
    (c.isReadOnly = false ∧ (writeCsr c p s).out = .ok none) ∨
      (c.isReadOnly = true ∧ writeCsr c p s = s.reject .readOnly) ∨
      (c = .satp ∧ writeCsr c p s = s.fail .invalidArch) := by
  cases c
  case satp =>
    simp only [writeCsr, writeSatp]
    split
    · exact .inl ⟨rfl, rfl⟩
    · split
      · exact .inr (.inr ⟨trivial, rfl⟩)
      · exact .inl ⟨rfl, rfl⟩
  case mvendorid => exact .inr (.inl ⟨rfl, rfl⟩)
  case marchid => exact .inr (.inl ⟨rfl, rfl⟩)
  case mimpid => exact .inr (.inl ⟨rfl, rfl⟩)
  case mhartid => exact .inr (.inl ⟨rfl, rfl⟩)
  all_goals exact .inl ⟨rfl, rfl⟩

theorem rawWrite_cases (addr : BitVec 12) (p : Inputs) (s : State) :
    Answers s (rawWrite addr p s) ∨
      ∃ c, c.addr = addr ∧ s.faulted = false ∧ c.assignedAt s.params.xlen = true ∧
        rawWrite addr p s = (rawCommit c (p.mask s.params.xlen) (p.data s.params.xlen) s).respond none := by
  rcases s.command_cases _ with ⟨hs, h⟩ | ⟨hf, h⟩
  · exact .inl (.halted hs h)
  · rw [rawWrite, h]
    cases hc : Csr.ofAddr addr with
    | none => exact .inl (.reject _ _)
    | some c =>
      dsimp only
      cases ha : c.assignedAt s.params.xlen
      · exact .inl (.reject _ _)
      · cases hv : c.isView
        · cases hr : c.isReadOnly
          · exact .inr ⟨c, (Csr.ofAddr_eq_some_iff _ _).1 hc, hf, ha, rfl⟩
          · exact .inl (.reject _ _)
        · exact .inl (.reject _ _)

theorem rawWrite_running {c : Csr} {s : State} (p : Inputs) (h : s.faulted = false)
    (ha : c.assignedAt s.params.xlen = true) (hv : c.isView = false) (hr : c.isReadOnly = false) :
    rawWrite c.addr p s = (rawCommit c (p.mask s.params.xlen) (p.data s.params.xlen) s).respond none := by
  simp [rawWrite, State.command_running h, ha, hv, hr]

/-- What a raw write changes at most: the register itself, half a counter included; minstret_written never. -/
theorem rawCommit_frame (c : Csr) (m d : Word) (s : State) :
    rawCommit c m d s =
      { s with
        misa := if c = .misa then (rawCommit c m d s).misa else s.misa
        mstatus := if c = .mstatus then (rawCommit c m d s).mstatus else s.mstatus
        mip := if c = .mip then (rawCommit c m d s).mip else s.mip
        mie := if c = .mie then (rawCommit c m d s).mie else s.mie
        mideleg := if c = .mideleg then (rawCommit c m d s).mideleg else s.mideleg
        medeleg := if c = .medeleg then (rawCommit c m d s).medeleg else s.medeleg
        mtvec := if c = .mtvec then (rawCommit c m d s).mtvec else s.mtvec
        stvec := if c = .stvec then (rawCommit c m d s).stvec else s.stvec
        mcause := if c = .mcause then (rawCommit c m d s).mcause else s.mcause
        scause := if c = .scause then (rawCommit c m d s).scause else s.scause
        mepc := if c = .mepc then (rawCommit c m d s).mepc else s.mepc
        sepc := if c = .sepc then (rawCommit c m d s).sepc else s.sepc
        mtval := if c = .mtval then (rawCommit c m d s).mtval else s.mtval
        stval := if c = .stval then (rawCommit c m d s).stval else s.stval
        mscratch := if c = .mscratch then (rawCommit c m d s).mscratch else s.mscratch
        sscratch := if c = .sscratch then (rawCommit c m d s).sscratch else s.sscratch
        mcounteren := if c = .mcounteren then (rawCommit c m d s).mcounteren else s.mcounteren
        scounteren := if c = .scounteren then (rawCommit c m d s).scounteren else s.scounteren
        mcountinhibit := if c = .mcountinhibit then (rawCommit c m d s).mcountinhibit else s.mcountinhibit
        satp := if c = .satp then (rawCommit c m d s).satp else s.satp
        mcycle := if c = .mcycle ∨ c = .mcycleh then (rawCommit c m d s).mcycle else s.mcycle
        minstret := if c = .minstret ∨ c = .minstreth then (rawCommit c m d s).minstret else s.minstret
        tselect := if c = .tselect then (rawCommit c m d s).tselect else s.tselect } := by
  cases c <;> rfl

theorem intWrite_cases (r : IntReg) (p : Inputs) (s : State) :
    Answers s (intWrite r p s) ∨
      (r = .curPrivilege ∧ ∃ q, Privilege.ofCode (p.wdata &&& 0b11) = some q ∧
        intWrite r p s = { s with curPrivilege := q }.respond none) ∨
      (r = .curInst ∧ intWrite r p s = { s with curInst := s.params.xlen.trunc p.wdata }.respond none) ∨
      (r = .minstretWritten ∧ intWrite r p s = { s with minstretWritten := bitOf p.wdata 0 }.respond none) ∨
      (r = .mtime ∧ intWrite r p s = { s with mtime := p.wdata }.respond none) ∨
      (r = .mcycle ∧ intWrite r p s = { s with mcycle := p.wdata }.respond none) ∨
      (r = .minstret ∧ intWrite r p s = { s with minstret := p.wdata }.respond none) := by
  rcases s.command_cases _ with ⟨hs, h⟩ | ⟨-, h⟩
  · exact .inl (.halted hs h)
  · rw [intWrite, h]
    cases r
    case curPrivilege =>
      cases hq : Privilege.ofCode (p.wdata &&& 0b11) with
      | none => exact .inl (by simp only [writeCurPrivilege, hq]; exact .reject _ _)
      | some q => exact .inr (.inl ⟨rfl, q, rfl, by simp only [writeCurPrivilege, hq]⟩)
    case curInst => exact .inr (.inr (.inl ⟨rfl, rfl⟩))
    case minstretWritten => exact .inr (.inr (.inr (.inl ⟨rfl, rfl⟩)))
    case mtime => exact .inr (.inr (.inr (.inr (.inl ⟨rfl, rfl⟩))))
    case mcycle => exact .inr (.inr (.inr (.inr (.inr (.inl ⟨rfl, rfl⟩)))))
    case minstret => exact .inr (.inr (.inr (.inr (.inr (.inr ⟨rfl, rfl⟩)))))

/-! ### Traps, returns, retirement -/

/-- TRAP_ENTER answers without a trap, finds no target, or enters one of the two levels (45_host_ports.md R430 to R433). -/
theorem trapEnter_cases (interrupt : Bool) (code tval epc : Word) (s : State) :
    Answers s (trapEnter interrupt code tval epc s) ∨
      trapEnter interrupt code tval epc s = s.fail .noTrapTarget ∨
      (trapToSupervisor interrupt code s = false ∧ ∃ target,
        tvecAddr s.params.xlen s.mtvec (causeValue s.params.xlen interrupt code) = some target ∧
        trapEnter interrupt code tval epc s =
          (enterMachine (causeValue s.params.xlen interrupt code) tval epc s).respond (some target)) ∨
      (trapToSupervisor interrupt code s = true ∧ ∃ target,
        tvecAddr s.params.xlen s.stvec (causeValue s.params.xlen interrupt code) = some target ∧
        trapEnter interrupt code tval epc s =
          (enterSupervisor (causeValue s.params.xlen interrupt code) tval epc s).respond (some target)) := by
  rcases s.command_cases _ with ⟨hs, h⟩ | ⟨-, h⟩
  · exact .inl (.halted hs h)
  · rw [trapEnter, h]
    dsimp only
    split
    · exact .inl (.reject _ _)
    · cases hs : trapToSupervisor interrupt code s
      · cases ht : tvecAddr s.params.xlen s.mtvec (causeValue s.params.xlen interrupt code) with
        | none => exact .inr (.inl (by simp [ht]))
        | some target => exact .inr (.inr (.inl ⟨rfl, target, rfl, by simp [ht]⟩))
      · cases ht : tvecAddr s.params.xlen s.stvec (causeValue s.params.xlen interrupt code) with
        | none => exact .inr (.inl (by simp [ht]))
        | some target => exact .inr (.inr (.inr ⟨rfl, target, rfl, by simp [ht]⟩))

/-- XRET MRET (45_host_ports.md R434). -/
theorem machineReturn_cases (s : State) :
    Answers s (machineReturn s) ∨
      machineReturn s = s.fail .invalidPrivilege ∨
      ∃ p, s.curPrivilege = .machine ∧ mppPrivilege s = some p ∧
        machineReturn s =
          { s with mstatus := mretStatus s.params.xlen (haveU s) s.mstatus, curPrivilege := p }.respond
            (some (s.mepc &&& pcAlignmentMask s)) := by
  rcases s.command_cases _ with ⟨hs, h⟩ | ⟨-, h⟩
  · exact .inl (.halted hs h)
  · rw [machineReturn, h]
    by_cases hm : s.curPrivilege = .machine
    · cases hp : mppPrivilege s with
      | none => exact .inr (.inl (by simp [hm]))
      | some p => exact .inr (.inr ⟨p, hm, rfl, by simp [hm]⟩)
    · exact .inl (by simpa [hm] using Answers.reject _ _)

/-- XRET SRET (45_host_ports.md R435). -/
theorem supervisorReturn_cases (s : State) :
    Answers s (supervisorReturn s) ∨
      (sretRefused s = false ∧
        supervisorReturn s =
          { s with
            mstatus := sretStatus s.params.xlen s.mstatus
            curPrivilege := if getField s.mstatus Mstatus.spp = 1 then .supervisor else .user }.respond
            (some (s.sepc &&& pcAlignmentMask s))) := by
  rcases s.command_cases _ with ⟨hs, h⟩ | ⟨-, h⟩
  · exact .inl (.halted hs h)
  · rw [supervisorReturn, h]
    cases hr : sretRefused s
    · exact .inr ⟨rfl, by simp⟩
    · exact .inl (by simpa using Answers.reject _ _)

/-- RETIRE on a block that runs (44_counters.md R371). -/
theorem retireInstruction_running {s : State} (h : s.faulted = false) :
    retireInstruction s =
      { s with
        minstret := if s.minstretWritten then s.minstret else s.minstret + 1
        minstretWritten := false
        out := .ok none } := by
  rw [retireInstruction, State.command_running h]
  cases s.minstretWritten <;> rfl

theorem retireInstruction_cases (s : State) :
    Answers s (retireInstruction s) ∨
      (s.faulted = false ∧ retireInstruction s =
        { s with
          minstret := if s.minstretWritten then s.minstret else s.minstret + 1
          minstretWritten := false
          out := .ok none }) := by
  rcases s.command_cases _ with ⟨hs, h⟩ | ⟨hf, -⟩
  · exact .inl (.halted hs h)
  · exact .inr ⟨hf, retireInstruction_running hf⟩

theorem resetCommand_cases (p : Inputs) (s : State) :
    Answers s (resetCommand p s) ∨
      (s.faulted = false ∧ resetCommand p s = (resetBlock p s).respond none) := by
  rcases s.command_cases _ with ⟨hs, h⟩ | ⟨hf, h⟩
  · exact .inl (.halted hs h)
  · exact .inr ⟨hf, h⟩

/-! ### The host -/

/-- A general register after a write of another or the same one; x0 stays 0. -/
theorem readX_writeX (s : State) (r q : BitVec 5) (v : Word) :
    readX (s.writeX r v) q = if q = r ∧ r ≠ 0 then v else readX s q := by
  unfold readX State.writeX
  by_cases hr : r = 0
  · simp [hr]
  · by_cases hq : q = 0
    · have hne : ¬(q = r ∧ r ≠ 0) := fun h => hr (h.1 ▸ hq)
      rw [if_neg hr, if_neg hne, if_pos hq, if_pos hq]
    · rw [if_neg hr, if_neg hq, if_neg hq]
      by_cases e : q = r
      · subst e
        rw [if_pos ⟨rfl, hr⟩]
        exact Vector.getElem_set_self (xs := s.x) (i := q.toNat) (x := v) q.isLt
      · rw [if_neg (fun h => e h.1)]
        exact Vector.getElem_set_ne (xs := s.x) (i := r.toNat) (x := v) r.isLt (j := q.toNat) q.isLt
          (fun h => e (BitVec.eq_of_toNat_eq h.symm))

/-- The host's trap moves the pc to the address TRAP_ENTER answers, and nowhere else. -/
theorem hostTrap_cases (interrupt : Bool) (code tval : Word) (s : State) :
    (∃ target, (trapEnter interrupt code tval s.pc s).out = .ok (some target) ∧
        hostTrap interrupt code tval s = (trapEnter interrupt code tval s.pc s).setPc target) ∨
      ((∀ target, (trapEnter interrupt code tval s.pc s).out ≠ .ok (some target)) ∧
        hostTrap interrupt code tval s = trapEnter interrupt code tval s.pc s) := by
  unfold hostTrap
  dsimp only
  split
  · rename_i target h; exact .inl ⟨target, h, rfl⟩
  · rename_i h; exact .inr ⟨fun target ht => h target ht, rfl⟩

theorem finishAt_running {s : State} (h : s.faulted = false) (target : Word) :
    finishAt target s =
      { s with
        minstret := if s.minstretWritten then s.minstret else s.minstret + 1
        minstretWritten := false
        out := .ok none
        pc := target } := by
  rw [finishAt, retireInstruction_running h]; rfl

theorem onResponse_ok {s : State} {d : Option Word} (h : s.out = .ok d) (word : BitVec 32) (k : Word → State → State) :
    onResponse word s k = k (d.getD 0) s := by
  simp [onResponse, h]

theorem onResponse_rejected {s : State} {r : RejectReason} (h : s.out = .rejected r) (word : BitVec 32)
    (k : Word → State → State) : onResponse word s k = raiseIllegal word s := by
  simp [onResponse, h]

theorem onResponse_fault {s : State} {r : FaultReason} (h : s.out = .fault r) (word : BitVec 32)
    (k : Word → State → State) : onResponse word s k = s := by
  simp [onResponse, h]

theorem outsideInstr_refused {w : BitVec 32} {s : State} (hf : s.faulted = false)
    (h : (isSfenceVma w && sfenceRefused s) = true) (host : HostResult) :
    outsideInstr w host s = raiseIllegal w s := by
  rw [outsideInstr, State.command_running hf, if_pos h]

theorem outsideInstr_retires {w : BitVec 32} {s : State} (hf : s.faulted = false)
    (h : (isSfenceVma w && sfenceRefused s) = false) (rd : BitVec 5) (v a : Word) :
    outsideInstr w (.retires rd v a) s =
      finishAt (s.params.xlen.trunc a) (s.writeX rd (s.params.xlen.trunc v)) := by
  rw [outsideInstr, State.command_running hf, if_neg (by rw [h]; decide)]

theorem outsideInstr_raises {w : BitVec 32} {s : State} (hf : s.faulted = false)
    (h : (isSfenceVma w && sfenceRefused s) = false) (c v : Word) :
    outsideInstr w (.raises c v) s = raiseException c v s := by
  rw [outsideInstr, State.command_running hf, if_neg (by rw [h]; decide)]

/-- An instruction the block never sees: a halted block answers Halted; else a refused SFENCE.VMA is an illegal
instruction, and any other word retires or raises as the host says. -/
theorem outsideInstr_cases (w : BitVec 32) (host : HostResult) (s : State) :
    Answers s (outsideInstr w host s) ∨
      (s.faulted = false ∧
        ((isSfenceVma w = true ∧ sfenceRefused s = true ∧ outsideInstr w host s = raiseIllegal w s) ∨
          (∃ rd v a, host = .retires rd v a ∧
            outsideInstr w host s = finishAt (s.params.xlen.trunc a) (s.writeX rd (s.params.xlen.trunc v))) ∨
          (∃ c v, host = .raises c v ∧ outsideInstr w host s = raiseException c v s))) := by
  rcases s.command_cases _ with ⟨hs, h⟩ | ⟨hf, h⟩
  · exact .inl (.halted hs h)
  · refine .inr ⟨hf, ?_⟩
    rw [outsideInstr, h]
    dsimp only
    split
    · rename_i hr
      rw [Bool.and_eq_true] at hr
      exact .inl ⟨hr.1, hr.2, rfl⟩
    · cases host with
      | retires rd v a => exact .inr (.inl ⟨rd, v, a, rfl, rfl⟩)
      | raises c v => exact .inr (.inr ⟨c, v, rfl, rfl⟩)

/-! ### The step -/

/-- What a step can be: nothing, an instruction of the table, a refused command word, an instruction outside the table, the
host's poll or its exception. -/
theorem step_cases {s t : State} (h : step s = .next t) :
    (s.pending = [] ∧ t = s) ∨
      (∃ p rest i, s.pending = .command p :: rest ∧ decodeCommand p.cmd = .ok i ∧ exec i (s.load p rest) = .next t) ∨
      (∃ p rest, s.pending = .command p :: rest ∧ t = rejectReserved (s.load p rest)) ∨
      (∃ w host p rest i, s.pending = .instruction w host p :: rest ∧ decodeInstruction w = .ok i ∧
        exec i ((s.load p rest).noteInstr w) = .next t) ∨
      (∃ w host p rest, s.pending = .instruction w host p :: rest ∧
        t = outsideInstr w host ((s.load p rest).noteInstr w)) ∨
      (∃ p rest, s.pending = .interrupt p :: rest ∧ t = pollInterrupt (s.load p rest)) ∨
      (∃ c v p rest, s.pending = .exception c v p :: rest ∧ t = raiseException c v (s.load p rest)) := by
  unfold step at h
  split at h
  · cases h; exact .inl ⟨by assumption, rfl⟩
  · rename_i p rest hp
    split at h
    · rename_i i hi; exact .inr (.inl ⟨p, rest, i, hp, hi, h⟩)
    · cases h; exact .inr (.inr (.inl ⟨p, rest, hp, rfl⟩))
  · rename_i w host p rest hp
    split at h
    · rename_i i hi; exact .inr (.inr (.inr (.inl ⟨w, host, p, rest, i, hp, hi, h⟩)))
    · cases h; exact .inr (.inr (.inr (.inr (.inl ⟨w, host, p, rest, hp, rfl⟩))))
  · rename_i p rest hp
    cases h; exact .inr (.inr (.inr (.inr (.inr (.inl ⟨p, rest, hp, rfl⟩)))))
  · rename_i c v p rest hp
    cases h; exact .inr (.inr (.inr (.inr (.inr (.inr ⟨c, v, p, rest, hp, rfl⟩)))))

end Sys2Proof.Machine
end

