-- ==== Sys2Proof/Laws/Exec.lean ====
section
/-! SUPPORT. What an instruction of the command channel can do: the one case analysis over all of Instr that statements
about every command go through. -/

namespace Sys2Proof.Machine

/-- The effects of the block's commands. A CSR or raw write stands here only where it is performed. -/
inductive CommandEffect (s : State) : Instr → State → Prop where
  | answers {i : Instr} {t : State} (h : Answers s t) : CommandEffect s i t
  | effPrivFails {i : Instr} (hi : i ∈ [Instr.effPrivRead, .effPrivWrite, .effPrivReadWrite]) :
      CommandEffect s i (s.fail .invalidPrivilege)
  | curArchFails : CommandEffect s .curArch (s.fail .invalidArch)
  | csrWrite (c : Csr) (ha : c.assignedAt s.params.xlen = true) : CommandEffect s c.writeInstr (writeCsr c s.port s)
  | rawWrite (c : Csr) (ha : c.assignedAt s.params.xlen = true) :
      CommandEffect s (.rawWrite c.addr)
        ((rawCommit c (s.port.mask s.params.xlen) (s.port.data s.params.xlen) s).respond none)
  | intWrite (r : IntReg) : CommandEffect s r.writeInstr (intWrite r s.port s)
  | retire : CommandEffect s .retire (retireInstruction s)
  | trapException : CommandEffect s .trapEnterException (trapEnterFromPort false s.port s)
  | trapInterrupt : CommandEffect s .trapEnterInterrupt (trapEnterFromPort true s.port s)
  | machineReturn : CommandEffect s .xretMret (machineReturn s)
  | supervisorReturn : CommandEffect s .xretSret (supervisorReturn s)
  | reset : CommandEffect s .reset (resetCommand s.port s)

theorem CommandEffect.of_csrWrite (c : Csr) (s : State) :
    CommandEffect s c.writeInstr (Machine.csrWrite c s.port s) := by
  rcases csrWrite_cases c s.port s with h | ⟨-, ha, h⟩
  · exact .answers h
  · rw [h]; exact .csrWrite c ha

theorem CommandEffect.of_rawWrite (addr : BitVec 12) (s : State) :
    CommandEffect s (.rawWrite addr) (Machine.rawWrite addr s.port s) := by
  rcases rawWrite_cases addr s.port s with h | ⟨c, rfl, -, ha, h⟩
  · exact .answers h
  · rw [h]; exact .rawWrite c ha

theorem CommandEffect.of_effPriv {i : Instr} (k : AccessKind)
    (hi : k ≠ .execute → i ∈ [Instr.effPrivRead, .effPrivWrite, .effPrivReadWrite]) (s : State) :
    CommandEffect s i (effPriv k s) := by
  rcases effPriv_cases k s with h | ⟨hn, h⟩
  · exact .answers h
  · rw [h]
    refine .effPrivFails (hi fun hk => ?_)
    simp [effectivePrivilege, hk] at hn

theorem CommandEffect.of_curArch (s : State) : CommandEffect s .curArch (curArch s) := by
  rcases curArch_cases s with h | ⟨-, h⟩
  · exact .answers h
  · rw [h]; exact .curArchFails

/-- Every command of the block has one of these effects. -/
theorem commandEffect {i : Instr} {s t : State} (hc : i.channel = .command) (h : exec i s = .next t) :
    CommandEffect s i t := by
  cases i
  case csrReadUnassigned addr =>
    simp only [exec, execCsrReadUnassigned] at h
    split at h <;> cases h; exact .answers (noSuchCsr_answers s)
  case csrWriteUnassigned addr =>
    simp only [exec, execCsrWriteUnassigned] at h
    split at h <;> cases h; exact .answers (noSuchCsr_answers s)
  case rawRead addr => cases h; exact .answers (rawRead_answers addr s)
  case rawWrite addr => cases h; exact .of_rawWrite addr s
  case accessCheckRead addr => cases h; exact .answers (accessCheck_answers false addr s)
  case accessCheckWrite addr => cases h; exact .answers (accessCheck_answers true addr s)
  case intReadCurPrivilege => cases h; exact .answers (intRead_answers _ s)
  case intReadCurInst => cases h; exact .answers (intRead_answers _ s)
  case intReadMinstretWritten => cases h; exact .answers (intRead_answers _ s)
  case intReadMtime => cases h; exact .answers (intRead_answers _ s)
  case intReadMcycle => cases h; exact .answers (intRead_answers _ s)
  case intReadMinstret => cases h; exact .answers (intRead_answers _ s)
  case intWriteCurPrivilege => cases h; exact .intWrite .curPrivilege
  case intWriteCurInst => cases h; exact .intWrite .curInst
  case intWriteMinstretWritten => cases h; exact .intWrite .minstretWritten
  case intWriteMtime => cases h; exact .intWrite .mtime
  case intWriteMcycle => cases h; exact .intWrite .mcycle
  case intWriteMinstret => cases h; exact .intWrite .minstret
  case effPrivRead => cases h; exact .of_effPriv .read (fun _ => by decide) s
  case effPrivWrite => cases h; exact .of_effPriv .write (fun _ => by decide) s
  case effPrivReadWrite => cases h; exact .of_effPriv .readWrite (fun _ => by decide) s
  case effPrivExecute => cases h; exact .of_effPriv .execute (fun hk => absurd rfl hk) s
  case curArch => cases h; exact .of_curArch s
  case tvecAddrM => cases h; exact .answers (tvecAddrMachine_answers s)
  case tvecAddrS => cases h; exact .answers (tvecAddrSupervisor_answers s)
  case pcAlignMask => cases h; exact .answers (pcAlignMask_answers s)
  case haveExtA => cases h; exact .answers (haveExt_answers .a s)
  case haveExtC => cases h; exact .answers (haveExt_answers .c s)
  case haveExtM => cases h; exact .answers (haveExt_answers .m s)
  case haveExtS => cases h; exact .answers (haveExt_answers .s s)
  case haveExtU => cases h; exact .answers (haveExt_answers .u s)
  case haveExtN => cases h; exact .answers (haveExt_answers .n s)
  case haveExtF => cases h; exact .answers (haveExt_answers .f s)
  case haveExtD => cases h; exact .answers (haveExt_answers .d s)
  case retire => cases h; exact .retire
  case trapEnterException => cases h; exact .trapException
  case trapEnterInterrupt => cases h; exact .trapInterrupt
  case xretMret => cases h; exact .machineReturn
  case xretSret => cases h; exact .supervisorReturn
  case reset => cases h; exact .reset
  case csrReadMisa => cases h; exact .answers (csrRead_answers .misa s)
  case csrWriteMisa => cases h; exact .of_csrWrite .misa s
  case csrReadMstatus => cases h; exact .answers (csrRead_answers .mstatus s)
  case csrWriteMstatus => cases h; exact .of_csrWrite .mstatus s
  case csrReadMip => cases h; exact .answers (csrRead_answers .mip s)
  case csrWriteMip => cases h; exact .of_csrWrite .mip s
  case csrReadMie => cases h; exact .answers (csrRead_answers .mie s)
  case csrWriteMie => cases h; exact .of_csrWrite .mie s
  case csrReadMideleg => cases h; exact .answers (csrRead_answers .mideleg s)
  case csrWriteMideleg => cases h; exact .of_csrWrite .mideleg s
  case csrReadMedeleg => cases h; exact .answers (csrRead_answers .medeleg s)
  case csrWriteMedeleg => cases h; exact .of_csrWrite .medeleg s
  case csrReadMtvec => cases h; exact .answers (csrRead_answers .mtvec s)
  case csrWriteMtvec => cases h; exact .of_csrWrite .mtvec s
  case csrReadMcounteren => cases h; exact .answers (csrRead_answers .mcounteren s)
  case csrWriteMcounteren => cases h; exact .of_csrWrite .mcounteren s
  case csrReadMcountinhibit => cases h; exact .answers (csrRead_answers .mcountinhibit s)
  case csrWriteMcountinhibit => cases h; exact .of_csrWrite .mcountinhibit s
  case csrReadMscratch => cases h; exact .answers (csrRead_answers .mscratch s)
  case csrWriteMscratch => cases h; exact .of_csrWrite .mscratch s
  case csrReadMepc => cases h; exact .answers (csrRead_answers .mepc s)
  case csrWriteMepc => cases h; exact .of_csrWrite .mepc s
  case csrReadMcause => cases h; exact .answers (csrRead_answers .mcause s)
  case csrWriteMcause => cases h; exact .of_csrWrite .mcause s
  case csrReadMtval => cases h; exact .answers (csrRead_answers .mtval s)
  case csrWriteMtval => cases h; exact .of_csrWrite .mtval s
  case csrReadMvendorid => cases h; exact .answers (csrRead_answers .mvendorid s)
  case csrWriteMvendorid => cases h; exact .of_csrWrite .mvendorid s
  case csrReadMarchid => cases h; exact .answers (csrRead_answers .marchid s)
  case csrWriteMarchid => cases h; exact .of_csrWrite .marchid s
  case csrReadMimpid => cases h; exact .answers (csrRead_answers .mimpid s)
  case csrWriteMimpid => cases h; exact .of_csrWrite .mimpid s
  case csrReadMhartid => cases h; exact .answers (csrRead_answers .mhartid s)
  case csrWriteMhartid => cases h; exact .of_csrWrite .mhartid s
  case csrReadTselect => cases h; exact .answers (csrRead_answers .tselect s)
  case csrWriteTselect => cases h; exact .of_csrWrite .tselect s
  case csrReadMcycle => cases h; exact .answers (csrRead_answers .mcycle s)
  case csrWriteMcycle => cases h; exact .of_csrWrite .mcycle s
  case csrReadMinstret => cases h; exact .answers (csrRead_answers .minstret s)
  case csrWriteMinstret => cases h; exact .of_csrWrite .minstret s
  case csrReadMcycleh => cases h; exact .answers (csrRead_answers .mcycleh s)
  case csrWriteMcycleh => cases h; exact .of_csrWrite .mcycleh s
  case csrReadMinstreth => cases h; exact .answers (csrRead_answers .minstreth s)
  case csrWriteMinstreth => cases h; exact .of_csrWrite .minstreth s
  case csrReadStvec => cases h; exact .answers (csrRead_answers .stvec s)
  case csrWriteStvec => cases h; exact .of_csrWrite .stvec s
  case csrReadScounteren => cases h; exact .answers (csrRead_answers .scounteren s)
  case csrWriteScounteren => cases h; exact .of_csrWrite .scounteren s
  case csrReadSscratch => cases h; exact .answers (csrRead_answers .sscratch s)
  case csrWriteSscratch => cases h; exact .of_csrWrite .sscratch s
  case csrReadSepc => cases h; exact .answers (csrRead_answers .sepc s)
  case csrWriteSepc => cases h; exact .of_csrWrite .sepc s
  case csrReadScause => cases h; exact .answers (csrRead_answers .scause s)
  case csrWriteScause => cases h; exact .of_csrWrite .scause s
  case csrReadStval => cases h; exact .answers (csrRead_answers .stval s)
  case csrWriteStval => cases h; exact .of_csrWrite .stval s
  case csrReadSatp => cases h; exact .answers (csrRead_answers .satp s)
  case csrWriteSatp => cases h; exact .of_csrWrite .satp s
  case csrReadSstatus => cases h; exact .answers (csrRead_answers .sstatus s)
  case csrWriteSstatus => cases h; exact .of_csrWrite .sstatus s
  case csrReadSip => cases h; exact .answers (csrRead_answers .sip s)
  case csrWriteSip => cases h; exact .of_csrWrite .sip s
  case csrReadSie => cases h; exact .answers (csrRead_answers .sie s)
  case csrWriteSie => cases h; exact .of_csrWrite .sie s
  case csrReadSideleg => cases h; exact .answers (csrRead_answers .sideleg s)
  case csrWriteSideleg => cases h; exact .of_csrWrite .sideleg s
  case csrReadSedeleg => cases h; exact .answers (csrRead_answers .sedeleg s)
  case csrWriteSedeleg => cases h; exact .of_csrWrite .sedeleg s
  all_goals cases hc

end Sys2Proof.Machine
end

