-- ==== Sys2Proof/Laws/PerInstr.lean ====
section
/-! SUPPORT. Per instruction: its word carries the fixed bits of its row of spec/opcode_table.json, copied here from the
table's mask and match columns. -/

namespace Sys2Proof.Laws.TableRow

open Sys2Proof

/-- The mask and match columns of the rows that leave no bit free, and of the others. -/
def row : Instr → BitVec 32 × BitVec 32
  | .csrReadMisa => (0xFFFFFFFF, 0x00000301)
  | .csrWriteMisa => (0xFFFFFFFF, 0x10000301)
  | .csrReadMstatus => (0xFFFFFFFF, 0x00000300)
  | .csrWriteMstatus => (0xFFFFFFFF, 0x10000300)
  | .csrReadMip => (0xFFFFFFFF, 0x00000344)
  | .csrWriteMip => (0xFFFFFFFF, 0x10000344)
  | .csrReadMie => (0xFFFFFFFF, 0x00000304)
  | .csrWriteMie => (0xFFFFFFFF, 0x10000304)
  | .csrReadMideleg => (0xFFFFFFFF, 0x00000303)
  | .csrWriteMideleg => (0xFFFFFFFF, 0x10000303)
  | .csrReadMedeleg => (0xFFFFFFFF, 0x00000302)
  | .csrWriteMedeleg => (0xFFFFFFFF, 0x10000302)
  | .csrReadMtvec => (0xFFFFFFFF, 0x00000305)
  | .csrWriteMtvec => (0xFFFFFFFF, 0x10000305)
  | .csrReadMcounteren => (0xFFFFFFFF, 0x00000306)
  | .csrWriteMcounteren => (0xFFFFFFFF, 0x10000306)
  | .csrReadMcountinhibit => (0xFFFFFFFF, 0x00000320)
  | .csrWriteMcountinhibit => (0xFFFFFFFF, 0x10000320)
  | .csrReadMscratch => (0xFFFFFFFF, 0x00000340)
  | .csrWriteMscratch => (0xFFFFFFFF, 0x10000340)
  | .csrReadMepc => (0xFFFFFFFF, 0x00000341)
  | .csrWriteMepc => (0xFFFFFFFF, 0x10000341)
  | .csrReadMcause => (0xFFFFFFFF, 0x00000342)
  | .csrWriteMcause => (0xFFFFFFFF, 0x10000342)
  | .csrReadMtval => (0xFFFFFFFF, 0x00000343)
  | .csrWriteMtval => (0xFFFFFFFF, 0x10000343)
  | .csrReadMvendorid => (0xFFFFFFFF, 0x00000F11)
  | .csrWriteMvendorid => (0xFFFFFFFF, 0x10000F11)
  | .csrReadMarchid => (0xFFFFFFFF, 0x00000F12)
  | .csrWriteMarchid => (0xFFFFFFFF, 0x10000F12)
  | .csrReadMimpid => (0xFFFFFFFF, 0x00000F13)
  | .csrWriteMimpid => (0xFFFFFFFF, 0x10000F13)
  | .csrReadMhartid => (0xFFFFFFFF, 0x00000F14)
  | .csrWriteMhartid => (0xFFFFFFFF, 0x10000F14)
  | .csrReadTselect => (0xFFFFFFFF, 0x000007A0)
  | .csrWriteTselect => (0xFFFFFFFF, 0x100007A0)
  | .csrReadMcycle => (0xFFFFFFFF, 0x00000B00)
  | .csrWriteMcycle => (0xFFFFFFFF, 0x10000B00)
  | .csrReadMinstret => (0xFFFFFFFF, 0x00000B02)
  | .csrWriteMinstret => (0xFFFFFFFF, 0x10000B02)
  | .csrReadMcycleh => (0xFFFFFFFF, 0x00000B80)
  | .csrWriteMcycleh => (0xFFFFFFFF, 0x10000B80)
  | .csrReadMinstreth => (0xFFFFFFFF, 0x00000B82)
  | .csrWriteMinstreth => (0xFFFFFFFF, 0x10000B82)
  | .csrReadStvec => (0xFFFFFFFF, 0x00000105)
  | .csrWriteStvec => (0xFFFFFFFF, 0x10000105)
  | .csrReadScounteren => (0xFFFFFFFF, 0x00000106)
  | .csrWriteScounteren => (0xFFFFFFFF, 0x10000106)
  | .csrReadSscratch => (0xFFFFFFFF, 0x00000140)
  | .csrWriteSscratch => (0xFFFFFFFF, 0x10000140)
  | .csrReadSepc => (0xFFFFFFFF, 0x00000141)
  | .csrWriteSepc => (0xFFFFFFFF, 0x10000141)
  | .csrReadScause => (0xFFFFFFFF, 0x00000142)
  | .csrWriteScause => (0xFFFFFFFF, 0x10000142)
  | .csrReadStval => (0xFFFFFFFF, 0x00000143)
  | .csrWriteStval => (0xFFFFFFFF, 0x10000143)
  | .csrReadSatp => (0xFFFFFFFF, 0x00000180)
  | .csrWriteSatp => (0xFFFFFFFF, 0x10000180)
  | .csrReadSstatus => (0xFFFFFFFF, 0x00000100)
  | .csrWriteSstatus => (0xFFFFFFFF, 0x10000100)
  | .csrReadSip => (0xFFFFFFFF, 0x00000144)
  | .csrWriteSip => (0xFFFFFFFF, 0x10000144)
  | .csrReadSie => (0xFFFFFFFF, 0x00000104)
  | .csrWriteSie => (0xFFFFFFFF, 0x10000104)
  | .csrReadSideleg => (0xFFFFFFFF, 0x00000103)
  | .csrWriteSideleg => (0xFFFFFFFF, 0x10000103)
  | .csrReadSedeleg => (0xFFFFFFFF, 0x00000102)
  | .csrWriteSedeleg => (0xFFFFFFFF, 0x10000102)
  | .csrReadUnassigned _ => (0xFFFFF000, 0x00000000)
  | .csrWriteUnassigned _ => (0xFFFFF000, 0x10000000)
  | .rawRead _ => (0xFFFFF000, 0x20000000)
  | .rawWrite _ => (0xFFFFF000, 0x30000000)
  | .intReadCurPrivilege => (0xFFFFFFFF, 0x40000000)
  | .intWriteCurPrivilege => (0xFFFFFFFF, 0x50000000)
  | .intReadCurInst => (0xFFFFFFFF, 0x40000001)
  | .intWriteCurInst => (0xFFFFFFFF, 0x50000001)
  | .intReadMinstretWritten => (0xFFFFFFFF, 0x40000002)
  | .intWriteMinstretWritten => (0xFFFFFFFF, 0x50000002)
  | .intReadMtime => (0xFFFFFFFF, 0x40000003)
  | .intWriteMtime => (0xFFFFFFFF, 0x50000003)
  | .intReadMcycle => (0xFFFFFFFF, 0x40000004)
  | .intWriteMcycle => (0xFFFFFFFF, 0x50000004)
  | .intReadMinstret => (0xFFFFFFFF, 0x40000005)
  | .intWriteMinstret => (0xFFFFFFFF, 0x50000005)
  | .effPrivRead => (0xFFFFFFFF, 0x60000000)
  | .effPrivWrite => (0xFFFFFFFF, 0x61000000)
  | .effPrivReadWrite => (0xFFFFFFFF, 0x62000000)
  | .effPrivExecute => (0xFFFFFFFF, 0x63000000)
  | .curArch => (0xFFFFFFFF, 0x70000000)
  | .tvecAddrM => (0xFFFFFFFF, 0x80000000)
  | .tvecAddrS => (0xFFFFFFFF, 0x81000000)
  | .pcAlignMask => (0xFFFFFFFF, 0x90000000)
  | .haveExtA => (0xFFFFFFFF, 0xA0000000)
  | .haveExtC => (0xFFFFFFFF, 0xA1000000)
  | .haveExtM => (0xFFFFFFFF, 0xA2000000)
  | .haveExtS => (0xFFFFFFFF, 0xA3000000)
  | .haveExtU => (0xFFFFFFFF, 0xA4000000)
  | .haveExtN => (0xFFFFFFFF, 0xA5000000)
  | .haveExtF => (0xFFFFFFFF, 0xA6000000)
  | .haveExtD => (0xFFFFFFFF, 0xA7000000)
  | .retire => (0xFFFFFFFF, 0xB0000000)
  | .accessCheckRead _ => (0xFFFFF000, 0xC0000000)
  | .accessCheckWrite _ => (0xFFFFF000, 0xC1000000)
  | .trapEnterException => (0xFFFFFFFF, 0xD0000000)
  | .trapEnterInterrupt => (0xFFFFFFFF, 0xD1000000)
  | .xretMret => (0xFFFFFFFF, 0xE0000000)
  | .xretSret => (0xFFFFFFFF, 0xE1000000)
  | .reset => (0xFFFFFFFF, 0xF0000000)
  | .csrrw _ _ _ => (0x0000707F, 0x00001073)
  | .csrrs _ _ _ => (0x0000707F, 0x00002073)
  | .csrrc _ _ _ => (0x0000707F, 0x00003073)
  | .csrrwi _ _ _ => (0x0000707F, 0x00005073)
  | .csrrsi _ _ _ => (0x0000707F, 0x00006073)
  | .csrrci _ _ _ => (0x0000707F, 0x00007073)
  | .mret => (0xFFFFFFFF, 0x30200073)
  | .sret => (0xFFFFFFFF, 0x10200073)
  | .ecall => (0xFFFFFFFF, 0x00000073)
  | .ebreak => (0xFFFFFFFF, 0x00100073)
  | .wfi => (0xFFFFFFFF, 0x10500073)

/-- The word of an instruction matches its row. -/
abbrev Statement (i : Instr) : Prop := encode i &&& (row i).1 = (row i).2

/-- The bits above ADDR of a command word. -/
theorem cmdWord_fixed (op sub : BitVec 4) (addr : BitVec 12) :
    cmdWord op sub addr &&& 0xFFFFF000 = cmdWord op sub 0 := by
  apply BitVec.eq_of_getLsbD_eq
  intro n hn
  have h : (0xFFFFF000 : BitVec 32).getLsbD n = decide (12 ≤ n) := by revert n; decide
  rw [BitVec.getLsbD_and, h, getLsbD_cmdWord, getLsbD_cmdWord]
  by_cases a : n < 12
  · simp [a, show ¬ 12 ≤ n by omega]
  · simp [a, show 12 ≤ n by omega]

/-- The opcode and funct3 of a SYSTEM word. -/
theorem systemWord_fixed (hi : BitVec 12) (rs1 : BitVec 5) (f : BitVec 3) (rd : BitVec 5) :
    systemWord hi rs1 f rd &&& 0x0000707F = systemWord 0 0 f 0 := by
  apply BitVec.eq_of_getLsbD_eq
  intro n hn
  have h : (0x0000707F : BitVec 32).getLsbD n = (decide (n < 7) || decide (12 ≤ n ∧ n < 15)) := by revert n; decide
  rw [BitVec.getLsbD_and, h, getLsbD_systemWord, getLsbD_systemWord]
  by_cases a : n < 7
  · simp [a]
  · by_cases b : n < 12
    · simp [a, b, show ¬ 12 ≤ n by omega]
    · by_cases c : n < 15
      · simp [a, b, c, show 12 ≤ n by omega]
      · simp [a, b, c]

theorem csrReadMisa : Statement .csrReadMisa := by decide
theorem csrWriteMisa : Statement .csrWriteMisa := by decide
theorem csrReadMstatus : Statement .csrReadMstatus := by decide
theorem csrWriteMstatus : Statement .csrWriteMstatus := by decide
theorem csrReadMip : Statement .csrReadMip := by decide
theorem csrWriteMip : Statement .csrWriteMip := by decide
theorem csrReadMie : Statement .csrReadMie := by decide
theorem csrWriteMie : Statement .csrWriteMie := by decide
theorem csrReadMideleg : Statement .csrReadMideleg := by decide
theorem csrWriteMideleg : Statement .csrWriteMideleg := by decide
theorem csrReadMedeleg : Statement .csrReadMedeleg := by decide
theorem csrWriteMedeleg : Statement .csrWriteMedeleg := by decide
theorem csrReadMtvec : Statement .csrReadMtvec := by decide
theorem csrWriteMtvec : Statement .csrWriteMtvec := by decide
theorem csrReadMcounteren : Statement .csrReadMcounteren := by decide
theorem csrWriteMcounteren : Statement .csrWriteMcounteren := by decide
theorem csrReadMcountinhibit : Statement .csrReadMcountinhibit := by decide
theorem csrWriteMcountinhibit : Statement .csrWriteMcountinhibit := by decide
theorem csrReadMscratch : Statement .csrReadMscratch := by decide
theorem csrWriteMscratch : Statement .csrWriteMscratch := by decide
theorem csrReadMepc : Statement .csrReadMepc := by decide
theorem csrWriteMepc : Statement .csrWriteMepc := by decide
theorem csrReadMcause : Statement .csrReadMcause := by decide
theorem csrWriteMcause : Statement .csrWriteMcause := by decide
theorem csrReadMtval : Statement .csrReadMtval := by decide
theorem csrWriteMtval : Statement .csrWriteMtval := by decide
theorem csrReadMvendorid : Statement .csrReadMvendorid := by decide
theorem csrWriteMvendorid : Statement .csrWriteMvendorid := by decide
theorem csrReadMarchid : Statement .csrReadMarchid := by decide
theorem csrWriteMarchid : Statement .csrWriteMarchid := by decide
theorem csrReadMimpid : Statement .csrReadMimpid := by decide
theorem csrWriteMimpid : Statement .csrWriteMimpid := by decide
theorem csrReadMhartid : Statement .csrReadMhartid := by decide
theorem csrWriteMhartid : Statement .csrWriteMhartid := by decide
theorem csrReadTselect : Statement .csrReadTselect := by decide
theorem csrWriteTselect : Statement .csrWriteTselect := by decide
theorem csrReadMcycle : Statement .csrReadMcycle := by decide
theorem csrWriteMcycle : Statement .csrWriteMcycle := by decide
theorem csrReadMinstret : Statement .csrReadMinstret := by decide
theorem csrWriteMinstret : Statement .csrWriteMinstret := by decide
theorem csrReadMcycleh : Statement .csrReadMcycleh := by decide
theorem csrWriteMcycleh : Statement .csrWriteMcycleh := by decide
theorem csrReadMinstreth : Statement .csrReadMinstreth := by decide
theorem csrWriteMinstreth : Statement .csrWriteMinstreth := by decide
theorem csrReadStvec : Statement .csrReadStvec := by decide
theorem csrWriteStvec : Statement .csrWriteStvec := by decide
theorem csrReadScounteren : Statement .csrReadScounteren := by decide
theorem csrWriteScounteren : Statement .csrWriteScounteren := by decide
theorem csrReadSscratch : Statement .csrReadSscratch := by decide
theorem csrWriteSscratch : Statement .csrWriteSscratch := by decide
theorem csrReadSepc : Statement .csrReadSepc := by decide
theorem csrWriteSepc : Statement .csrWriteSepc := by decide
theorem csrReadScause : Statement .csrReadScause := by decide
theorem csrWriteScause : Statement .csrWriteScause := by decide
theorem csrReadStval : Statement .csrReadStval := by decide
theorem csrWriteStval : Statement .csrWriteStval := by decide
theorem csrReadSatp : Statement .csrReadSatp := by decide
theorem csrWriteSatp : Statement .csrWriteSatp := by decide
theorem csrReadSstatus : Statement .csrReadSstatus := by decide
theorem csrWriteSstatus : Statement .csrWriteSstatus := by decide
theorem csrReadSip : Statement .csrReadSip := by decide
theorem csrWriteSip : Statement .csrWriteSip := by decide
theorem csrReadSie : Statement .csrReadSie := by decide
theorem csrWriteSie : Statement .csrWriteSie := by decide
theorem csrReadSideleg : Statement .csrReadSideleg := by decide
theorem csrWriteSideleg : Statement .csrWriteSideleg := by decide
theorem csrReadSedeleg : Statement .csrReadSedeleg := by decide
theorem csrWriteSedeleg : Statement .csrWriteSedeleg := by decide
theorem csrReadUnassigned (addr : BitVec 12) : Statement (.csrReadUnassigned addr) := cmdWord_fixed _ _ addr
theorem csrWriteUnassigned (addr : BitVec 12) : Statement (.csrWriteUnassigned addr) := cmdWord_fixed _ _ addr
theorem rawRead (addr : BitVec 12) : Statement (.rawRead addr) := cmdWord_fixed _ _ addr
theorem rawWrite (addr : BitVec 12) : Statement (.rawWrite addr) := cmdWord_fixed _ _ addr
theorem intReadCurPrivilege : Statement .intReadCurPrivilege := by decide
theorem intWriteCurPrivilege : Statement .intWriteCurPrivilege := by decide
theorem intReadCurInst : Statement .intReadCurInst := by decide
theorem intWriteCurInst : Statement .intWriteCurInst := by decide
theorem intReadMinstretWritten : Statement .intReadMinstretWritten := by decide
theorem intWriteMinstretWritten : Statement .intWriteMinstretWritten := by decide
theorem intReadMtime : Statement .intReadMtime := by decide
theorem intWriteMtime : Statement .intWriteMtime := by decide
theorem intReadMcycle : Statement .intReadMcycle := by decide
theorem intWriteMcycle : Statement .intWriteMcycle := by decide
theorem intReadMinstret : Statement .intReadMinstret := by decide
theorem intWriteMinstret : Statement .intWriteMinstret := by decide
theorem effPrivRead : Statement .effPrivRead := by decide
theorem effPrivWrite : Statement .effPrivWrite := by decide
theorem effPrivReadWrite : Statement .effPrivReadWrite := by decide
theorem effPrivExecute : Statement .effPrivExecute := by decide
theorem curArch : Statement .curArch := by decide
theorem tvecAddrM : Statement .tvecAddrM := by decide
theorem tvecAddrS : Statement .tvecAddrS := by decide
theorem pcAlignMask : Statement .pcAlignMask := by decide
theorem haveExtA : Statement .haveExtA := by decide
theorem haveExtC : Statement .haveExtC := by decide
theorem haveExtM : Statement .haveExtM := by decide
theorem haveExtS : Statement .haveExtS := by decide
theorem haveExtU : Statement .haveExtU := by decide
theorem haveExtN : Statement .haveExtN := by decide
theorem haveExtF : Statement .haveExtF := by decide
theorem haveExtD : Statement .haveExtD := by decide
theorem retire : Statement .retire := by decide
theorem accessCheckRead (addr : BitVec 12) : Statement (.accessCheckRead addr) := cmdWord_fixed _ _ addr
theorem accessCheckWrite (addr : BitVec 12) : Statement (.accessCheckWrite addr) := cmdWord_fixed _ _ addr
theorem trapEnterException : Statement .trapEnterException := by decide
theorem trapEnterInterrupt : Statement .trapEnterInterrupt := by decide
theorem xretMret : Statement .xretMret := by decide
theorem xretSret : Statement .xretSret := by decide
theorem reset : Statement .reset := by decide
theorem csrrw (rd : BitVec 5) (csr : BitVec 12) (k : BitVec 5) : Statement (.csrrw rd csr k) :=
  systemWord_fixed csr k _ rd
theorem csrrs (rd : BitVec 5) (csr : BitVec 12) (k : BitVec 5) : Statement (.csrrs rd csr k) :=
  systemWord_fixed csr k _ rd
theorem csrrc (rd : BitVec 5) (csr : BitVec 12) (k : BitVec 5) : Statement (.csrrc rd csr k) :=
  systemWord_fixed csr k _ rd
theorem csrrwi (rd : BitVec 5) (csr : BitVec 12) (k : BitVec 5) : Statement (.csrrwi rd csr k) :=
  systemWord_fixed csr k _ rd
theorem csrrsi (rd : BitVec 5) (csr : BitVec 12) (k : BitVec 5) : Statement (.csrrsi rd csr k) :=
  systemWord_fixed csr k _ rd
theorem csrrci (rd : BitVec 5) (csr : BitVec 12) (k : BitVec 5) : Statement (.csrrci rd csr k) :=
  systemWord_fixed csr k _ rd
theorem mret : Statement .mret := by decide
theorem sret : Statement .sret := by decide
theorem ecall : Statement .ecall := by decide
theorem ebreak : Statement .ebreak := by decide
theorem wfi : Statement .wfi := by decide

end Sys2Proof.Laws.TableRow
end

