-- ==== Sys2Proof/Tests/Slice0.lean ====
section
/-! SUPPORT. The model's own tests. Expected values come from the spec: words from the encodings of 30_encoding.md and
45_host_ports.md, results from the vectors of 95_test_vectors.md, named in each comment (V-M-1 is row V-M-1 there). The
last part shows, for every statement that has hypotheses, states and operands that meet them. -/

namespace Sys2Proof.Tests

open Sys2Proof Sys2Proof.Machine Sys2Proof.Claims

/-! ### Small states -/

/-- Configuration C64. -/
abbrev c64 : State := State.reset

/-- The state after reset with other parameters or boot capabilities. -/
def booted (q : Params) (caps : Caps := Caps.c64) : State := powerOn q { Inputs.idle with caps := caps }

/-- Configuration C32. -/
def c32 : State := booted { Params.c64 with xlen := .rv32 }

/-- Configuration C64N. -/
def c64N : State := booted { Params.c64 with misaFixed := 0x143101 }

/-- Configuration C64noU. -/
def c64noU : State := booted { Params.c64 with misaFixed := 0x041101 }

/-- Configuration C64noS. -/
def c64noS : State := booted { Params.c64 with misaFixed := 0x101101 }

/-- All bits set. -/
def allOnes : Word := 0xFFFFFFFFFFFFFFFF

/-- The next state of a step, if there is one. -/
def nextOf : Host.Outcome State Fault Refusal → Option State
  | .next t => some t
  | _ => none

/-- The state after one command with these inputs. -/
def issue (s : State) (p : Inputs) : Option State := nextOf (step { s with pending := [.command p] })

/-- The state after one command word with write data `d`, write mask `m` and no other input. -/
def cmd (s : State) (w : BitVec 32) (d : Word := 0) (m : Word := 0) : Option State :=
  issue s { Inputs.idle with cmd := w, wdata := d, wmask := m }

/-- The state after one TRAP_ENTER. -/
def trap (s : State) (w : BitVec 32) (code tval epc : Word) : Option State :=
  issue s { Inputs.idle with cmd := w, wdata := code, tval := tval, epc := epc }

/-- The state after one host instruction; `host` is what comes of a word outside the table. -/
def ins (s : State) (w : BitVec 32) (host : HostResult := .retires 0 0 0) : Option State :=
  nextOf (step { s with pending := [.instruction w host Inputs.idle] })

/-- The response to one command word. -/
def answerOf (s : State) (w : BitVec 32) (d : Word := 0) (m : Word := 0) : Option Response := (cmd s w d m).map (·.out)

/-! ### Well-formed terms -/

/-- A number R130 assigns is refused in the two rows of R290; 0x073 and 0xC00 are not assigned. -/
theorem test_wellFormed_refuses_assigned_read : (Instr.csrReadUnassigned 0x300).wellFormed = false := by decide

theorem test_wellFormed_refuses_assigned_write : (Instr.csrWriteUnassigned 0xB80).wellFormed = false := by decide

theorem test_wellFormed_admits_unassigned :
    (Instr.csrReadUnassigned 0xC00).wellFormed = true ∧ (Instr.csrWriteUnassigned 0x073).wellFormed = true := by decide

/-- An ill-formed term is a fault of its own. -/
theorem test_illFormed_faults : exec (.csrReadUnassigned 0x300) c64 = .fault .illFormed := rfl

/-! ### Decoding: words written out from the encodings of the spec -/

/-- Every pair's word decodes to its instruction on the block's command port. -/
def decodesAs (l : List (BitVec 32 × Instr)) : Bool :=
  l.all fun wi => decide ((decodeCommand wi.1).toOption = some wi.2)

/-- OP 0x0 with the machine-level numbers of R130. -/
theorem test_decode_csr_reads_machine : decodesAs
    [(0x00000301, .csrReadMisa),
     (0x00000300, .csrReadMstatus),
     (0x00000344, .csrReadMip),
     (0x00000304, .csrReadMie),
     (0x00000303, .csrReadMideleg),
     (0x00000302, .csrReadMedeleg),
     (0x00000305, .csrReadMtvec),
     (0x00000306, .csrReadMcounteren),
     (0x00000320, .csrReadMcountinhibit),
     (0x00000340, .csrReadMscratch),
     (0x00000341, .csrReadMepc),
     (0x00000342, .csrReadMcause),
     (0x00000343, .csrReadMtval),
     (0x00000F11, .csrReadMvendorid),
     (0x00000F12, .csrReadMarchid),
     (0x00000F13, .csrReadMimpid),
     (0x00000F14, .csrReadMhartid),
     (0x000007A0, .csrReadTselect),
     (0x00000B00, .csrReadMcycle),
     (0x00000B02, .csrReadMinstret),
     (0x00000B80, .csrReadMcycleh),
     (0x00000B82, .csrReadMinstreth)] = true := by decide

/-- OP 0x0 with the supervisor-level numbers and views of R130, and one number R130 does not assign. -/
theorem test_decode_csr_reads_supervisor : decodesAs
    [(0x00000105, .csrReadStvec),
     (0x00000106, .csrReadScounteren),
     (0x00000140, .csrReadSscratch),
     (0x00000141, .csrReadSepc),
     (0x00000142, .csrReadScause),
     (0x00000143, .csrReadStval),
     (0x00000180, .csrReadSatp),
     (0x00000100, .csrReadSstatus),
     (0x00000144, .csrReadSip),
     (0x00000104, .csrReadSie),
     (0x00000103, .csrReadSideleg),
     (0x00000102, .csrReadSedeleg),
     (0x00000C00, .csrReadUnassigned 0xC00)] = true := by decide

/-- OP 0x1 with the machine-level numbers of R130. -/
theorem test_decode_csr_writes_machine : decodesAs
    [(0x10000301, .csrWriteMisa),
     (0x10000300, .csrWriteMstatus),
     (0x10000344, .csrWriteMip),
     (0x10000304, .csrWriteMie),
     (0x10000303, .csrWriteMideleg),
     (0x10000302, .csrWriteMedeleg),
     (0x10000305, .csrWriteMtvec),
     (0x10000306, .csrWriteMcounteren),
     (0x10000320, .csrWriteMcountinhibit),
     (0x10000340, .csrWriteMscratch),
     (0x10000341, .csrWriteMepc),
     (0x10000342, .csrWriteMcause),
     (0x10000343, .csrWriteMtval),
     (0x10000F11, .csrWriteMvendorid),
     (0x10000F12, .csrWriteMarchid),
     (0x10000F13, .csrWriteMimpid),
     (0x10000F14, .csrWriteMhartid),
     (0x100007A0, .csrWriteTselect),
     (0x10000B00, .csrWriteMcycle),
     (0x10000B02, .csrWriteMinstret),
     (0x10000B80, .csrWriteMcycleh),
     (0x10000B82, .csrWriteMinstreth)] = true := by decide

/-- OP 0x1 with the supervisor-level numbers and views of R130, and one number R130 does not assign. -/
theorem test_decode_csr_writes_supervisor : decodesAs
    [(0x10000105, .csrWriteStvec),
     (0x10000106, .csrWriteScounteren),
     (0x10000140, .csrWriteSscratch),
     (0x10000141, .csrWriteSepc),
     (0x10000142, .csrWriteScause),
     (0x10000143, .csrWriteStval),
     (0x10000180, .csrWriteSatp),
     (0x10000100, .csrWriteSstatus),
     (0x10000144, .csrWriteSip),
     (0x10000104, .csrWriteSie),
     (0x10000103, .csrWriteSideleg),
     (0x10000102, .csrWriteSedeleg),
     (0x10000FFF, .csrWriteUnassigned 0xFFF)] = true := by decide

/-- OP 0x2 to 0x5 (R123) with the selectors of R131. -/
theorem test_decode_ports : decodesAs
    [(0x20000341, .rawRead 0x341),
     (0x30000FFF, .rawWrite 0xFFF),
     (0x40000000, .intReadCurPrivilege),
     (0x40000001, .intReadCurInst),
     (0x40000002, .intReadMinstretWritten),
     (0x40000003, .intReadMtime),
     (0x40000004, .intReadMcycle),
     (0x40000005, .intReadMinstret),
     (0x50000000, .intWriteCurPrivilege),
     (0x50000001, .intWriteCurInst),
     (0x50000002, .intWriteMinstretWritten),
     (0x50000003, .intWriteMtime),
     (0x50000004, .intWriteMcycle),
     (0x50000005, .intWriteMinstret)] = true := by decide

/-- OP 0x6 to 0xA (R123 to R125). -/
theorem test_decode_queries : decodesAs
    [(0x60000000, .effPrivRead),
     (0x61000000, .effPrivWrite),
     (0x62000000, .effPrivReadWrite),
     (0x63000000, .effPrivExecute),
     (0x70000000, .curArch),
     (0x80000000, .tvecAddrM),
     (0x81000000, .tvecAddrS),
     (0x90000000, .pcAlignMask),
     (0xA0000000, .haveExtA),
     (0xA1000000, .haveExtC),
     (0xA2000000, .haveExtM),
     (0xA3000000, .haveExtS),
     (0xA4000000, .haveExtU),
     (0xA5000000, .haveExtN),
     (0xA6000000, .haveExtF),
     (0xA7000000, .haveExtD)] = true := by decide

/-- OP 0xB to 0xF (R123). -/
theorem test_decode_control : decodesAs
    [(0xB0000000, .retire),
     (0xC0000100, .accessCheckRead 0x100),
     (0xC1000F14, .accessCheckWrite 0xF14),
     (0xD0000000, .trapEnterException),
     (0xD1000000, .trapEnterInterrupt),
     (0xE0000000, .xretMret),
     (0xE1000000, .xretSret),
     (0xF0000000, .reset)] = true := by decide

/-- Every pair's word decodes to its instruction at the host's instruction fetch. -/
def decodesAsHost (l : List (BitVec 32 × Instr)) : Bool :=
  l.all fun wi => decide ((decodeInstruction wi.1).toOption = some wi.2)

/-- R445 to R451, with the encodings of V-Z-1 to V-Z-9. -/
theorem test_decode_host : decodesAsHost
    [(0x34029073, .csrrw 0 0x340 5),
     (0x300022F3, .csrrs 5 0x300 0),
     (0x3000B073, .csrrc 0 0x300 1),
     (0x30545073, .csrrwi 0 0x305 8),
     (0x30046073, .csrrsi 0 0x300 8),
     (0x30047073, .csrrci 0 0x300 8),
     (0xF1402373, .csrrs 6 0xF14 0),
     (0x30200073, .mret),
     (0x10200073, .sret),
     (0x00000073, .ecall),
     (0x00100073, .ebreak),
     (0x10500073, .wfi)] = true := by decide

/-- `lui t0, 0x2` of program P1 and an unassigned SYSTEM word are no rows of the table. -/
theorem test_decode_outside_table :
    decodeInstruction 0x000022B7 = .error .notInTable ∧ decodeInstruction 0x00200073 = .error .notInTable := by decide

/-- The words R127 reserves: V-E-1 to V-E-5, V-E-7, V-P-14, V-R-20 and ADDR ≠ 0 of RETIRE, TRAP_ENTER, XRET and RESET. -/
theorem test_decode_reserved :
    ([0x00100300, 0x01000300, 0x64000000, 0x82000000, 0x70000001, 0x30100144, 0x40000006, 0xA8000000, 0xB0000001,
      0xD2000000, 0xD0000001, 0xE2000000, 0xE0000800, 0xF1000000, 0xF0000001, 0xC2000100] : List (BitVec 32)).all
      (fun w => decide (decodeCommand w = .error .reservedEncoding)) = true := by decide

/-- The table's words through the host's interface; 0x00000073 is the host row. -/
theorem test_decodeTableWord :
    decodeTableWord 32 0x301 = some .csrReadMisa ∧ decodeTableWord 32 0x00000073 = some .ecall ∧
    decodeTableWord 32 0x00002073 = some (.csrrs 0 0 0) ∧ decodeTableWord 32 0x40000006 = none := by decide

/-- step runs a placed word first: RETIRE counts one instruction, ECALL traps with code 11 at Machine. -/
theorem test_withFetchWord :
    (nextOf (step (c64.withFetchWord 32 0xB0000000))).map (·.minstret) = some 1 ∧
    (nextOf (step (c64.withFetchWord 32 0x00000073))).map (·.mcause) = some 11 := by decide

/-- Texts of R140. -/
theorem test_text_trap :
    commandText { Inputs.idle with wdata := 7, epc := 0x80000100 } .trapEnterInterrupt =
      some "TRAP_ENTER interrupt, code=0x7, tval=0x0, epc=0x80000100" := by decide

theorem test_text_write :
    commandText { Inputs.idle with wdata := 0x80000001 } .csrWriteMtvec = some "CSR_WRITE mtvec, 0x80000001" := by decide

/-! ### Reset -/

/-- 95_test_vectors.md section 1: RESET from power-on under C64 and C32. -/
theorem test_reset_c64 : powerOn Params.c64 Inputs.idle = State.reset := by decide

theorem test_reset_c32 : c32.misa = 0x4014112D ∧ c32.mstatus = 0 := by decide

/-- V-E-12. -/
theorem test_reset_no_boot_capabilities :
    (issue c64 { Inputs.idle with cmd := 0xF0000000, caps := { Caps.c64 with rvcBoot := false, fdextBoot := false } }).map
      (·.misa) = some 0x8000000000141101 := by decide

/-! ### CSR reads and writes -/

/-- V-M-1. -/
theorem test_read_misa :
    answerOf c64 0x00000301 = some (.ok (some 0x800000000014112D)) := by decide

/-- E8: misa.C is cleared only where next_pc is 4-byte aligned. -/
theorem test_write_misa_alignment :
    (issue c64 { Inputs.idle with cmd := 0x10000301, wdata := 0x8000000000141129, nextPc := 0x1002 }).map (·.misa) =
        some 0x800000000014112D ∧
    (issue c64 { Inputs.idle with cmd := 0x10000301, wdata := 0x8000000000141129, nextPc := 0x1004 }).map (·.misa) =
        some 0x8000000000141129 := by decide

/-- V-M-5: D without F is refused. -/
theorem test_write_misa_double_needs_single :
    (cmd c64 0x10000301 8).map (·.misa) = some 0x8000000000141129 := by decide

/-- E1: V-M write of all ones. -/
theorem test_write_mstatus :
    (cmd c64 0x10000300 allOnes).map (·.mstatus) = some 0x8000000A007E79AA := by decide

/-- V-M-10. -/
theorem test_write_mstatus_rv32 :
    (cmd c32 0x10000300 0xFFFFFFFF).map (·.mstatus) = some 0x807E79AA := by decide

/-- The reset value of section 1. -/
theorem test_read_mstatus :
    answerOf c64 0x00000300 = some (.ok (some 0xA00000000)) := by decide

/-- V-M-17 and V-M-18. -/
theorem test_write_mip :
    (cmd c64 0x10000344 0xFFF).map (·.mip) = some 0x222 ∧
    (cmd c64N 0x10000344 0xFFF).map (·.mip) = some 0x333 := by decide

/-- V-M-19. -/
theorem test_write_mip_keeps_platform_bits :
    (cmd { c64 with mip := 0x80 } 0x10000344 0).map (·.mip) = some 0x80 := by decide

/-- V-M-20 and V-M-21. -/
theorem test_write_mie :
    (cmd c64 0x10000304 0xFFF).map (·.mie) = some 0xAAA ∧
    (cmd c64N 0x10000304 0xFFF).map (·.mie) = some 0xBBB := by decide

/-- R236 and R238: no masking when read. -/
theorem test_read_mip_mie :
    answerOf { c64 with mip := 0x888 } 0x00000344 = some (.ok (some 0x888)) ∧ answerOf { c64 with mie := 0xAAA } 0x00000304 = some (.ok (some 0xAAA)) := by decide

/-- E10. -/
theorem test_write_mideleg :
    (cmd c64 0x10000303 allOnes).map (·.mideleg) = some 0x333 := by decide

/-- E5. -/
theorem test_write_medeleg :
    (cmd c64 0x10000302 allOnes).map (·.medeleg) = some 0xB3FF := by decide

/-- R240 and R242. -/
theorem test_read_delegation :
    answerOf { c64 with mideleg := 0x222 } 0x00000303 = some (.ok (some 0x222)) ∧ answerOf { c64 with medeleg := 0xB200 } 0x00000302 = some (.ok (some 0xB200)) := by decide

/-- E9: a reserved mode keeps the old mode, the base is written. -/
theorem test_write_mtvec :
    (cmd { c64 with mtvec := 0x80000001 } 0x10000305 0x90000002).map (·.mtvec) = some 0x90000001 ∧
    (cmd c64 0x10000305 0x80000002).map (·.mtvec) = some 0x80000000 := by decide

/-- R277, as E9. -/
theorem test_write_stvec :
    (cmd { c64 with stvec := 0x80000001 } 0x10000105 0x90000003).map (·.stvec) = some 0x90000001 := by decide

/-- R244 and R276. -/
theorem test_read_vectors :
    answerOf { c64 with mtvec := 0x2001 } 0x00000305 = some (.ok (some 0x2001)) ∧ answerOf { c64 with stvec := 0x3001 } 0x00000105 = some (.ok (some 0x3001)) := by decide

/-- V-M-23, V-M-24 and R279. -/
theorem test_write_counter_enables :
    (cmd c64 0x10000306 0xFFFFFFFF).map (·.mcounteren) = some 7 ∧
    (cmd c64 0x10000106 0xFFFFFFFF).map (·.scounteren) = some 7 ∧
    (cmd c64 0x10000320 0xFFFFFFFF).map (·.mcountinhibit) = some 5 := by decide

/-- R246, R248, R278. -/
theorem test_read_counter_enables :
    answerOf { c64 with mcounteren := 5 } 0x00000306 = some (.ok (some 0x5)) ∧
    answerOf { c64 with scounteren := 3 } 0x00000106 = some (.ok (some 0x3)) ∧
    answerOf { c64 with mcountinhibit := 4 } 0x00000320 = some (.ok (some 0x4)) := by decide

/-- V-M-40. -/
theorem test_write_mscratch :
    (cmd c64 0x10000340 0xDEADBEEF).map (·.mscratch) = some 0xDEADBEEF := by decide

/-- R9: at XLEN=32 the write data are wdata[31:0]. -/
theorem test_write_rv32_truncates :
    (cmd c32 0x10000340 0x1DEADBEEF).map (·.mscratch) = some 0xDEADBEEF ∧
    (cmd c32 0x10000140 0x1DEADBEEF).map (·.sscratch) = some 0xDEADBEEF := by decide

/-- R255 and R285: every bit is stored. -/
theorem test_write_cause :
    (cmd c64 0x10000342 0x8000000000000007).map (·.mcause) = some 0x8000000000000007 ∧
    (cmd c64 0x10000142 0x4000000000000001).map (·.scause) = some 0x4000000000000001 := by decide

/-- R257 and R287. -/
theorem test_write_tval :
    (cmd c64 0x10000343 0x1003).map (·.mtval) = some 0x1003 ∧
    (cmd c64 0x10000143 0x1003).map (·.stval) = some 0x1003 := by decide

/-- R250, R254, R256, R280, R284, R286. -/
theorem test_read_trap_registers :
    answerOf { c64 with mscratch := 1 } 0x00000340 = some (.ok (some 0x1)) ∧
    answerOf { c64 with mcause := 2 } 0x00000342 = some (.ok (some 0x2)) ∧
    answerOf { c64 with mtval := 3 } 0x00000343 = some (.ok (some 0x3)) ∧
    answerOf { c64 with sscratch := 4 } 0x00000140 = some (.ok (some 0x4)) ∧
    answerOf { c64 with scause := 5 } 0x00000142 = some (.ok (some 0x5)) ∧
    answerOf { c64 with stval := 6 } 0x00000143 = some (.ok (some 0x6)) := by decide

/-- R281. -/
theorem test_write_sscratch :
    (cmd c64 0x10000140 0x1234).map (·.sscratch) = some 0x1234 := by decide

/-- V-M-25: bit 0 is cleared, bit 1 stays where misa.C can be 1. -/
theorem test_write_mepc :
    (cmd c64 0x10000341 0x80000003).map (·.mepc) = some 0x80000002 := by decide

/-- V-M-27: with misa.C = 0 the read clears bit 1 of the stored value. -/
theorem test_read_mepc_masked :
    answerOf { c64 with misa := 0x8000000000141129, mepc := 0x80000006 } 0x00000341 = some (.ok (some 0x80000004)) := by decide

/-- V-M-26: without C, now or ever, bit 1 is cleared. -/
theorem test_write_mepc_no_compressed :
    (issue (booted Params.c64 { Caps.c64 with rvcBoot := false })
        { Inputs.idle with cmd := 0x10000341, wdata := 0x80000003, caps := { Caps.c64 with rvcBoot := false } }).map
      (·.mepc) = some 0x80000000 := by decide

/-- R282 and R283, as V-M-25 and V-M-27. -/
theorem test_write_read_sepc :
    (cmd c64 0x10000141 0x80000003).map (·.sepc) = some 0x80000002 ∧
    answerOf { c64 with misa := 0x8000000000141129, sepc := 0x80000006 } 0x00000141 = some (.ok (some 0x80000004)) := by decide

/-- V-M-33 and R258 to R264. -/
theorem test_read_identity :
    answerOf c64 0x00000F14 = some (.ok (some 0x0)) ∧
    answerOf (booted { Params.c64 with mvendorid := 0x11, marchid := 0x12, mimpid := 0x13, mhartid := 0x14 }) 0x00000F11 = some (.ok (some 0x11)) ∧
    answerOf (booted { Params.c64 with marchid := 0x12 }) 0x00000F12 = some (.ok (some 0x12)) ∧
    answerOf (booted { Params.c64 with mimpid := 0x13 }) 0x00000F13 = some (.ok (some 0x13)) := by decide

/-- V-M-34 and R259 to R263. -/
theorem test_write_identity_refused :
    ([0x10000F11, 0x10000F12, 0x10000F13, 0x10000F14] : List (BitVec 32)).all
      (fun w => decide (answerOf c64 w 1 = some (.rejected .readOnly))) = true := by decide

/-- V-M-35. -/
theorem test_write_read_tselect :
    (cmd c64 0x100007A0 5).map (·.tselect) = some 5 ∧ answerOf { c64 with tselect := 5 } 0x000007A0 = some (.ok (some 0x5)) := by decide

/-- V-M-28, E11, V-M-31: a recognized mode is stored, any other discards the whole write. -/
theorem test_satp_modes :
    (cmd { c64 with satp := 0x8000500000001234 } 0x10000180 0x9000000000000001).map (·.satp) = some 0x9000000000000001 ∧
    (cmd { c64 with satp := 0x8000500000001234 } 0x10000180 0x1000000000000055).map (·.satp) = some 0x8000500000001234 ∧
    (cmd c64 0x10000180 0x42).map (·.satp) = some 0x42 := by decide

/-- V-M-32; R288. -/
theorem test_satp_rv32 :
    (cmd c32 0x10000180 0x80000001).map (·.satp) = some 0x80000001 ∧ answerOf { c64 with satp := 0x42 } 0x00000180 = some (.ok (some 0x42)) := by decide

/-- E6: the write sets the flag. -/
theorem test_write_minstret :
    (cmd c64 0x10000B02 5).map (fun t => (t.minstret, t.minstretWritten)) = some (5, true) := by decide

/-- V-M-36. -/
theorem test_write_minstreth :
    (cmd { c32 with minstret := 0x100000007 } 0x10000B82 2).map (fun t => (t.minstret, t.minstretWritten)) =
      some (0x200000007, true) := by decide

/-- V-M-37. -/
theorem test_write_mcycleh :
    (cmd { c32 with mcycle := 0xFFFFFFFF } 0x10000B80 1).map (·.mcycle) = some 0x1FFFFFFFF := by decide

/-- R269. -/
theorem test_write_mcycle :
    (cmd c64 0x10000B00 0x10).map (·.mcycle) = some 0x10 ∧
    (cmd { c32 with mcycle := 0x500000001 } 0x10000B00 7).map (·.mcycle) = some 0x500000007 := by decide

/-- V-M-37, R270, R274. -/
theorem test_read_counters :
    answerOf { c32 with mcycle := 0x1FFFFFFFF } 0x00000B00 = some (.ok (some 0xFFFFFFFF)) ∧
    answerOf { c32 with mcycle := 0x1FFFFFFFF } 0x00000B80 = some (.ok (some 0x1)) ∧
    answerOf { c64 with minstret := 0x100000007 } 0x00000B02 = some (.ok (some 0x100000007)) ∧
    answerOf { c32 with minstret := 0x200000007 } 0x00000B82 = some (.ok (some 0x2)) := by decide

/-- V-M-38: no upper halves at XLEN=64. -/
theorem test_upper_halves_absent :
    ([0x00000B80, 0x10000B80, 0x00000B82, 0x10000B82] : List (BitVec 32)).all
      (fun w => decide (answerOf c64 w = some (.rejected .noSuchCsr))) = true := by decide

/-- V-M-39 and its write. -/
theorem test_unassigned_rejected :
    answerOf c64 0x00000C00 = some (.rejected .noSuchCsr) ∧ answerOf c64 0x10000C00 = some (.rejected .noSuchCsr) := by decide

/-! ### Views -/

/-- V-S-1. -/
theorem test_read_sstatus :
    answerOf c64 0x00000100 = some (.ok (some 0x200000000)) := by decide

/-- V-S-2 and V-S-3. -/
theorem test_write_sstatus :
    (cmd c64 0x10000100 allOnes).map (·.mstatus) = some 0x8000000A000DE133 ∧
    (cmd c32 0x10000100 0xFFFFFFFF).map (·.mstatus) = some 0x800DE133 := by decide

/-- V-S-6. -/
theorem test_read_sip :
    answerOf { c64 with mip := 0x2A8, mideleg := 0x222 } 0x00000144 = some (.ok (some 0x220)) := by decide

/-- V-S-7 and V-S-8. -/
theorem test_write_sip :
    (cmd { c64 with mideleg := 0x222 } 0x10000144 0xFFF).map (·.mip) = some 2 ∧
    (cmd { c64N with mideleg := 0x333 } 0x10000144 0xFFF).map (·.mip) = some 3 := by decide

/-- R305. -/
theorem test_read_sie :
    answerOf { c64 with mie := 0x8AA, mideleg := 0x222 } 0x00000104 = some (.ok (some 0x22)) := by decide

/-- E4 and V-S-10. -/
theorem test_write_sie :
    (cmd { c64 with mideleg := 0x020, mie := 0x888 } 0x10000104 0xFFF).map (·.mie) = some 0x8A8 ∧
    (cmd { c64N with mideleg := 0x333 } 0x10000104 0xFFF).map (·.mie) = some 0x333 := by decide

/-- R307 and V-S-14. -/
theorem test_read_sideleg_sedeleg :
    answerOf { c64 with mideleg := 0x222 } 0x00000103 = some (.ok (some 0x222)) ∧ answerOf { c64 with medeleg := 0xB3FF } 0x00000102 = some (.ok (some 0x1FF)) := by decide

/-- V-S-11 to V-S-13. -/
theorem test_write_sideleg :
    (cmd { c64 with mideleg := 0x222 } 0x10000103 0).map (·.mideleg) = some 0 ∧
    (cmd c64 0x10000103 0x222).map (·.mideleg) = some 0 ∧
    (cmd { c64 with mideleg := 0x333 } 0x10000103 0).map (·.mideleg) = some 0x111 := by decide

/-- V-S-15 and V-S-16. -/
theorem test_write_sedeleg :
    (cmd { c64 with medeleg := 0xB3FF } 0x10000102 0).map (·.medeleg) = some 0xB200 ∧
    (cmd { c64 with medeleg := 0x100 } 0x10000102 0x1FF).map (·.medeleg) = some 0x100 := by decide

/-! ### Ports -/

/-- V-P-5: the raw read shows what the CSR read masks. -/
theorem test_raw_read_unmasked :
    answerOf { c64 with mepc := 0x1001 } 0x20000341 = some (.ok (some 0x1001)) ∧ answerOf { c64 with mepc := 0x1001 } 0x00000341 = some (.ok (some 0x1000)) := by decide

/-- V-S-17 and V-E-8. -/
theorem test_raw_read_view :
    answerOf c64 0x20000100 = some (.rejected .notStorage) ∧ answerOf c64 0x30000B80 = some (.rejected .noSuchCsr) := by decide

/-- V-P-1, V-P-2. -/
theorem test_raw_write :
    (cmd c64 0x30000344 0x80 0x80).map (·.mip) = some 0x80 ∧
    (cmd c64 0x30000300 allOnes allOnes).map (·.mstatus) = some 0x8000000A007FF9BB := by decide

/-- V-P-6, V-P-7, V-P-8. -/
theorem test_raw_write_counter :
    (cmd { c32 with minstret := 0x500000001 } 0x30000B82 7 0xFFFFFFFF).map (fun t => (t.minstret, t.minstretWritten)) =
      some (0x700000001, false) ∧
    answerOf c64 0x30000F14 1 1 = some (.rejected .readOnly) ∧ answerOf c64 0x30000144 1 1 = some (.rejected .notStorage) := by decide

/-- V-P-9, V-P-10, V-P-11. -/
theorem test_int_privilege :
    answerOf c64 0x40000000 = some (.ok (some 0x3)) ∧ answerOf c64 0x50000000 2 = some (.rejected .badValue) ∧
    (cmd c64 0x50000000 1).map (·.curPrivilege) = some .supervisor := by decide

/-- R405, V-P-13. -/
theorem test_int_reads :
    answerOf { c64 with curInst := 0x13 } 0x40000001 = some (.ok (some 0x13)) ∧
    answerOf { c64 with minstretWritten := true } 0x40000002 = some (.ok (some 0x1)) ∧
    answerOf { c64 with mtime := 0x10 } 0x40000003 = some (.ok (some 0x10)) ∧
    answerOf { c32 with mcycle := 0x100000000 } 0x40000004 = some (.ok (some 0x100000000)) ∧
    answerOf { c32 with minstret := 0x100000000 } 0x40000005 = some (.ok (some 0x100000000)) := by decide

/-- R406, V-P-12; the write of minstret leaves the flag (V-C-3). -/
theorem test_int_writes :
    (cmd c64 0x50000001 0x13).map (·.curInst) = some 0x13 ∧
    (cmd c64 0x50000002 3).map (·.minstretWritten) = some true ∧
    (cmd c64 0x50000003 0x10).map (·.mtime) = some 0x10 ∧
    (cmd c32 0x50000004 0x100000000).map (·.mcycle) = some 0x100000000 ∧
    (cmd c64 0x50000005 0x50).map (fun t => (t.minstret, t.minstretWritten)) = some (0x50, false) := by decide

/-! ### Resolvers, queries, retirement, access check -/

/-- V-R-1, V-R-2: MPRV acts on data accesses and not on a fetch. -/
theorem test_eff_priv :
    answerOf { c64 with mstatus := 0x0000000A00020000 } 0x60000000 = some (.ok (some 0x0)) ∧
    answerOf { c64 with mstatus := 0x0000000A00020000 } 0x62000000 = some (.ok (some 0x0)) ∧
    answerOf { c64 with mstatus := 0x0000000A00020000 } 0x63000000 = some (.ok (some 0x3)) := by decide

/-- V-R-3: MPP = 0b10 faults. -/
theorem test_eff_priv_faults :
    (cmd { c64 with mstatus := 0x0000000A00021000 } 0x61000000).map (fun t => (t.out, t.faulted)) =
      some (.fault .invalidPrivilege, true) := by decide

/-- V-R-5 to V-R-7. -/
theorem test_cur_arch :
    answerOf c64 0x70000000 = some (.ok (some 0x2)) ∧ answerOf { c64 with curPrivilege := .user } 0x70000000 = some (.ok (some 0x2)) ∧
    answerOf c32 0x70000000 = some (.ok (some 0x1)) := by decide

/-- E12, V-R-10, V-R-12. -/
theorem test_tvec_addr :
    answerOf { c64 with mtvec := 0x80000001, mcause := 0x8000000000000007 } 0x80000000 = some (.ok (some 0x8000001C)) ∧
    answerOf { c64 with mtvec := 0x80000001, mcause := 7 } 0x80000000 = some (.ok (some 0x80000000)) ∧
    answerOf { c64 with mtvec := 0x80000002 } 0x80000000 = some (.ok none) ∧
    answerOf { c32 with mtvec := 0x80000001, mcause := 0x80000007 } 0x80000000 = some (.ok (some 0x8000001C)) := by decide

/-- V-R-11. -/
theorem test_tvec_addr_supervisor :
    answerOf { c64 with stvec := 0x80200000, scause := 0x8000000000000005 } 0x81000000 = some (.ok (some 0x80200000)) := by decide

/-- V-R-13 to V-R-15. -/
theorem test_pc_align_mask :
    answerOf c64 0x90000000 = some (.ok (some 0xFFFFFFFFFFFFFFFE)) ∧
    answerOf { c64 with misa := 0x8000000000141129 } 0x90000000 = some (.ok (some 0xFFFFFFFFFFFFFFFC)) ∧
    answerOf c32 0x90000000 = some (.ok (some 0xFFFFFFFE)) := by decide

/-- V-R-16, V-R-17: F and D need FS other than Off. -/
theorem test_have_ext_float :
    answerOf c64 0xA6000000 = some (.ok (some 0x0)) ∧
    answerOf { c64 with mstatus := 0xA00002000 } 0xA6000000 = some (.ok (some 0x1)) ∧
    answerOf { c64 with mstatus := 0xA00002000 } 0xA7000000 = some (.ok (some 0x1)) := by decide

/-- R351 under C64 (A, C, M, S, U, N). -/
theorem test_have_ext :
    ([0xA0000000, 0xA1000000, 0xA2000000, 0xA3000000, 0xA4000000, 0xA5000000] : List (BitVec 32)).map (answerOf c64) =
      [some (.ok (some 1)), some (.ok (some 1)), some (.ok (some 1)), some (.ok (some 1)), some (.ok (some 1)),
       some (.ok (some 0))] := by decide

/-- E6 and V-C-1. -/
theorem test_retire :
    (cmd { c64 with minstret := 0x10 } 0xB0000000).map (·.minstret) = some 0x11 ∧
    (cmd { c64 with minstret := allOnes } 0xB0000000).map (·.minstret) = some 0 := by decide

/-- E6: the flag is consumed, the count stays. -/
theorem test_retire_after_write :
    (cmd { c64 with minstret := 5, minstretWritten := true } 0xB0000000).map (fun t => (t.minstret, t.minstretWritten)) =
      some (5, false) := by decide

/-- Section 9: sstatus, mstatus, mhartid, satp with TVM = 1, and mcycleh at each XLEN. -/
theorem test_access_check_read :
    answerOf { c64 with curPrivilege := .user } 0xC0000100 = some (.ok (some 0x0)) ∧
    answerOf { c64 with curPrivilege := .supervisor } 0xC0000100 = some (.ok (some 0x1)) ∧
    answerOf { c64 with curPrivilege := .supervisor } 0xC0000300 = some (.ok (some 0x0)) ∧
    answerOf c64 0xC0000F14 = some (.ok (some 0x1)) ∧
    answerOf { c64 with curPrivilege := .supervisor, mstatus := 0xA00100000 } 0xC0000180 = some (.ok (some 0x0)) ∧
    answerOf c64 0xC0000B80 = some (.ok (some 0x0)) ∧
    answerOf c32 0xC0000B80 = some (.ok (some 0x1)) ∧
    answerOf c64noS 0xC0000100 = some (.ok (some 0x0)) := by decide

/-- Section 9: mhartid, mcycle and satp. -/
theorem test_access_check_write :
    answerOf c64 0xC1000F14 = some (.ok (some 0x0)) ∧
    answerOf c64 0xC1000B00 = some (.ok (some 0x1)) ∧
    answerOf { c64 with curPrivilege := .supervisor } 0xC1000180 = some (.ok (some 0x1)) := by decide

/-! ### Traps and returns -/

/-- V-T-1. -/
theorem test_trap_exception :
    (trap { c64 with curPrivilege := .user, mtvec := 0x80000001, mstatus := 0x0000000A00000008 } 0xD0000000 8 0 0x1000).map
      (fun t => (t.out, t.mcause, t.mepc, t.mstatus, t.curPrivilege)) =
      some (.ok (some 0x80000000), 8, 0x1000, 0x0000000A00000080, .machine) := by decide

/-- V-T-17. -/
theorem test_trap_delegated :
    (trap { c64 with curPrivilege := .user, medeleg := 0x100, stvec := 0x80200000, mstatus := 0x0000000A00000002 }
        0xD0000000 8 0 0x2000).map (fun t => (t.out, t.scause, t.sepc, t.mstatus, t.curPrivilege)) =
      some (.ok (some 0x80200000), 8, 0x2000, 0x0000000A00000020, .supervisor) := by decide

/-- V-T-8. -/
theorem test_trap_interrupt :
    (trap { c64 with curPrivilege := .user, mtvec := 0x80000001 } 0xD1000000 9 0 0x40).map (fun t => (t.out, t.mcause)) =
      some (.ok (some 0x80000024), 0x8000000000000009) := by decide

/-- V-T-6 and V-T-7. -/
theorem test_trap_refused :
    (trap c64 0xD0000000 0x8000000000000000 0 0).map (·.out) = some (.rejected .badValue) ∧
    (trap { c64 with mtvec := 0x80000002 } 0xD0000000 2 0 0).map (fun t => (t.out, t.faulted, t.mcause)) =
      some (.fault .noTrapTarget, true, 0) := by decide

/-- V-T-2 and V-T-10. -/
theorem test_xret_mret :
    (cmd { c64 with mstatus := 0x0000000A00000080, mepc := 0x1000 } 0xE0000000).map
      (fun t => (t.out, t.mstatus, t.curPrivilege)) = some (.ok (some 0x1000), 0x0000000A00000088, .user) ∧
    answerOf { c64 with misa := 0x8000000000141129, mepc := 0x1006 } 0xE0000000 = some (.ok (some 0x1004)) := by decide

/-- V-T-11 and V-T-12. -/
theorem test_xret_mret_refused :
    answerOf { c64 with mstatus := 0x0000000A00001000 } 0xE0000000 = some (.fault .invalidPrivilege) ∧
    answerOf { c64 with curPrivilege := .supervisor } 0xE0000000 = some (.rejected .privilege) := by decide

/-- V-T-18. -/
theorem test_xret_sret :
    (cmd { c64 with curPrivilege := .supervisor, mstatus := 0x0000000A00000020, sepc := 0x2000 } 0xE1000000).map
      (fun t => (t.out, t.mstatus, t.curPrivilege)) = some (.ok (some 0x2000), 0x0000000A00000022, .user) := by decide

/-- V-T-13 and V-T-14: TSR binds Supervisor and not Machine. -/
theorem test_xret_sret_tsr :
    answerOf { c64 with curPrivilege := .supervisor, mstatus := 0x0000000A00400000 } 0xE1000000 =
      some (.rejected .privilege) ∧
    (cmd { c64 with mstatus := 0x0000000A00400000 } 0xE1000000).map (·.curPrivilege) = some .user := by decide

/-- V-E-9 and V-E-10. -/
theorem test_halted :
    answerOf { c64 with faulted := true } 0xF0000000 = some (.fault .halted) ∧
    answerOf { c64 with faulted := true } 0x00000300 = some (.fault .halted) := by decide

/-! ### Host instructions -/

/-- V-Z-1. -/
theorem test_csrrw :
    (ins { c64 with mscratch := 7, x := c64.x.set 5 9 } 0x34029073).map (fun t => (t.mscratch, t.pc, t.minstret)) =
      some (9, 0x1004, 1) := by decide

/-- V-Z-8: the host raises IllegalInstr. -/
theorem test_csrrw_refused :
    (ins { c64 with mtvec := 0x400 } 0xF1429073).map (fun t => (t.mcause, t.mepc, t.pc, t.minstret)) =
      some (2, 0x1000, 0x400, 0) := by decide

/-- R445, one register as source and destination: `csrrw x5, mscratch, x5`. -/
theorem test_csrrw_swaps :
    (ins { c64 with mscratch := 7, x := c64.x.set 5 9 } 0x340292F3).map (fun t => (t.mscratch, readX t 5)) =
      some (9, 7) := by decide

/-- P1 at 0x1014. -/
theorem test_csrrs :
    (ins { c64 with x := c64.x.set 7 0x80 } 0x3003A073).map (fun t => (t.mstatus, t.pc)) =
      some (0x0000000A00000080, 0x1004) := by decide

/-- V-Z-7 and P3: no write where rs1 is x0. -/
theorem test_csrrs_reads_only :
    (ins { c64 with minstret := 0x64 } 0xB0202373).map (fun t => (readX t 6, t.minstret)) = some (0x64, 0x65) := by decide

/-- P3 at 0x1016 and 0x101C: misa.C is cleared only where next_pc is 4-byte aligned. -/
theorem test_csrrc :
    (ins { c64 with pc := 0x1016, x := c64.x.set 28 4 } 0x301E3073).map (·.misa) = some 0x800000000014112D ∧
    (ins { c64 with pc := 0x101C, x := c64.x.set 28 4 } 0x301E3073).map (·.misa) = some 0x8000000000141129 := by decide

/-- V-Z-4. -/
theorem test_csrrwi :
    (ins c64 0x30545073).map (fun t => (t.mtvec, t.pc)) = some (8, 0x1004) := by decide

/-- V-Z-5 and P4. -/
theorem test_csrrsi :
    (ins c64 0x30046073).map (·.mstatus) = some 0x0000000A00000008 := by decide

/-- V-Z-6. -/
theorem test_csrrci :
    (ins { c64 with mstatus := 0x0000000A00000088 } 0x30047073).map (·.mstatus) = some 0x0000000A00000080 := by decide

/-- P1 at 0x1018. -/
theorem test_mret :
    (ins { c64 with mstatus := 0x0000000A00000080, mepc := 0x3000 } 0x30200073).map
      (fun t => (t.pc, t.curPrivilege, t.minstret)) = some (0x3000, .user, 1) := by decide

/-- P2 at 0x3008. -/
theorem test_sret :
    (ins { c64 with curPrivilege := .supervisor, sepc := 0x4000 } 0x10200073).map (fun t => (t.pc, t.curPrivilege)) =
      some (0x4000, .user) := by decide

/-- P1 at 0x3000. -/
theorem test_ecall :
    (ins { c64 with curPrivilege := .user, mtvec := 0x2000, pc := 0x3000 } 0x00000073).map
      (fun t => (t.pc, t.mcause, t.mepc, t.mtval, t.minstret)) = some (0x2000, 8, 0x3000, 0, 0) := by decide

/-- R451, R510. -/
theorem test_ebreak :
    (ins { c64 with mtvec := 0x2000 } 0x00100073).map (fun t => (t.pc, t.mcause, t.mepc, t.mtval)) =
      some (0x2000, 3, 0x1000, 0x1000) := by decide

/-- R436, R451. -/
theorem test_wfi :
    (ins c64 0x10500073).map (fun t => (t.pc, t.minstret)) = some (0x1004, 1) ∧
    (ins { c64 with curPrivilege := .supervisor, mstatus := 0x0000000A00200000 } 0x10500073).map (·.mcause) = some 2 := by decide

/-- P4 at 0x1018. -/
theorem test_interrupt_taken :
    (nextOf (step { c64 with
        pending := [.interrupt Inputs.idle], pc := 0x1018, mtvec := 0x2001, mie := 0x80, mip := 0x80,
        mstatus := 0x0000000A00000008 })).map (fun t => (t.pc, t.mcause, t.mepc, t.mstatus)) =
      some (0x201C, 0x8000000000000007, 0x1018, 0x0000000A00001880) := by decide

/-- P1 at 0x1000: the block sees only the RETIRE of `lui t0, 0x2`. -/
theorem test_outside_table :
    (ins c64 0x000022B7 (.retires 5 0x2000 0x1004)).map (fun t => (readX t 5, t.pc, t.minstret)) =
      some (0x2000, 0x1004, 1) := by decide

/-- R510: the host raises LoadAccessFault for a load, `lw x5, 0(x6)`, and it does not retire. -/
theorem test_outside_table_raises :
    (ins { c64 with mtvec := 0x400 } 0x00032283 (.raises 5 0x80)).map
      (fun t => (t.pc, t.mcause, t.mtval, t.mepc, t.minstret)) = some (0x400, 5, 0x80, 0x1000, 0) := by decide

/-- R436: SFENCE.VMA at Supervisor level with TVM = 1 is an illegal instruction. -/
theorem test_sfence_refused :
    (ins { c64 with curPrivilege := .supervisor, mstatus := 0x0000000A00100000 } 0x12000073 (.retires 0 0 0x1004)).map
      (fun t => (t.mcause, t.mepc, t.minstret)) = some (2, 0x1000, 0) := by decide

/-- R107: SFENCE.VMA with TVM = 0 and FENCE change no state of the block but retire (R370). -/
theorem test_fences :
    (ins { c64 with curPrivilege := .supervisor } 0x12000073 (.retires 0 0 0x1004)).map (fun t => (t.pc, t.mcause, t.minstret)) =
      some (0x1004, 0, 1) ∧
    (ins c64 0x0FF0000F (.retires 0 0 0x1004)).map (fun t => (t.pc, t.mcause, t.minstret)) = some (0x1004, 0, 1) := by decide

/-- R630: the host keeps cur_inst current; a halted block refuses the write (R502). -/
theorem test_cur_inst :
    (ins c64 0x10500073).map (·.curInst) = some 0x10500073 ∧
    (ins { c64 with faulted := true, curInst := 7 } 0x10500073).map (fun t => (t.curInst, t.out)) =
      some (7, .fault .halted) := by decide

/-! ### Layouts and the host's contract -/

/-- R203: the check over the tables of 10_state.md and 42_views.md passes at both XLEN. -/
theorem test_layouts_ok :
    (layouts .rv32).all layoutOk = true ∧ (layouts .rv64).all layoutOk = true ∧ layoutOk (64, [⟨3, 1⟩, ⟨5, 3⟩]) = false := by decide

/-- The layouts cover the masks the rules print: MSTATUS_DEF (R37), SSTATUS_R (R301), MINT_DEF (R42), R307, R309. -/
theorem test_layout_masks :
    layoutMask (Mstatus.layout .rv32) = 0x807FF9BB ∧ layoutMask (Mstatus.layout .rv64) = 0x8000000F007FF9BB ∧
    layoutMask (sstatusLayout .rv32) = 0x800DE133 ∧ layoutMask (sstatusLayout .rv64) = 0x80000003000DE133 ∧
    layoutMask minterruptsLayout = 0xBBB ∧ layoutMask sinterruptsLayout = 0x333 ∧ layoutMask sedelegLayout = 0x1FF := by decide

/-- RESET, a boot write of cur_privilege, an instruction, and the platform's raw write of mip (P4). -/
def contractRun : List Request :=
  [.command { Inputs.idle with cmd := 0xF0000000 }, .command { Inputs.idle with cmd := 0x50000000 },
   .instruction 0x30046073 (.retires 0 0 0) Inputs.idle, .command { Inputs.idle with cmd := 0x30000344 },
   .interrupt Inputs.idle]

/-- R630: that run keeps the contract; it does not with a RETIRE, a CSR_WRITE, a raw write of mstatus, a RESET or a write of cur_privilege at its end. -/
theorem test_host_contract :
    hostContract true true contractRun = true ∧
    ([0xB0000000, 0x10000300, 0x30000300, 0xF0000000, 0x50000000].all fun w : BitVec 32 =>
      !hostContract true true (contractRun ++ [.command { Inputs.idle with cmd := w }])) = true := by decide

/-! ### Witnesses: the hypotheses of every statement that has some can be met together

Named witness_<statement>, one conjunct per clause, at boundary values where a clause has a range. -/

/-- A state with one entry pending. -/
def waiting (s : State) (r : Request) : State := { s with pending := [r] }

/-- The entry of one command word. -/
def word (w : BitVec 32) : Request := .command { Inputs.idle with cmd := w }

/-- C64 and C32, not faulted: the states for the statements whose only hypotheses are those: StoredRegistersRead,
InformationalRegisters, CountersReadAndWritten, ViewsRead, MaskedRegistersWrite, PlainRegistersWrite, SstatusWrite,
RawWritesMasked, RawWriteOfStatus, RawWritesOfCounters, InternalReads, TrapVectorQueries, MaskAndExtensionQueries and
AccessCheckAnswers. -/
theorem witness_running_rv64 : c64.faulted = false ∧ c64.params.xlen = .rv64 := by decide

theorem witness_running_rv32 : c32.faulted = false ∧ c32.params.xlen = .rv32 := by decide

theorem witness_DecodeInvertsEncode :
    (Instr.csrrw 31 0xFFF 31).wellFormed = true ∧ (Instr.rawWrite 0).wellFormed = true ∧
    (Instr.csrReadUnassigned 0xFFF).wellFormed = true ∧ (Instr.csrWriteUnassigned 0).wellFormed = true := by decide

theorem witness_DecodedWordHasOneMeaning :
    decodeOn .command 0xE1000000 = .ok .xretSret ∧ decodeOn .instruction 0x34029073 = .ok (.csrrw 0 0x340 5) := by decide

/-- A reserved word, a word that is a command, and an unassigned number: the last raw number and mcycleh at XLEN=64. -/
theorem witness_ReservedWordsRejected :
    (waiting c64 (word 0x00100300)).pending = [word 0x00100300] ∧ c64.faulted = false ∧
    reserved 0x00100300 = true ∧ reserved 0x50000006 = true ∧ reserved 0x50000005 = false ∧ reserved 0xF0000000 = false ∧
    reserved 0x30000FFF = false ∧ ((0x30000FFF : BitVec 32).extractLsb' 28 4).toNat < 4 ∧
    (0x30000FFF : BitVec 32).extractLsb' 0 12 ∉ assignedNumbers c64.params.xlen ∧
    (0x30000B80 : BitVec 32).extractLsb' 0 12 ∉ assignedNumbers c64.params.xlen := by decide

theorem witness_StepRunsDecodedInstruction :
    (waiting c64 (word 0xB0000000)).pending = [word 0xB0000000] ∧ decodeCommand 0xB0000000 = .ok .retire ∧
    (waiting c64 (.instruction 0x73 (.retires 0 0 0) Inputs.idle)).pending =
      [.instruction 0x73 (.retires 0 0 0) Inputs.idle] ∧
    decodeInstruction 0x73 = .ok .ecall := by decide

/-- A lui, a refused SFENCE.VMA, a faulted block, an exception entry; a word one bit off SFENCE.VMA is none. -/
theorem witness_StepRunsOtherEntries :
    let lui : Request := .instruction 0x000022B7 (.retires 5 0x2000 0x1004) Inputs.idle
    let load : Request := .instruction 0x00032283 (.raises 5 0x80) Inputs.idle
    let u : State := { c64 with curPrivilege := .supervisor, mstatus := 0x0000000A00100000 }
    c64.pending = [] ∧ c64.faulted = false ∧ (waiting c64 lui).pending = [lui] ∧ (waiting c64 load).pending = [load] ∧
    decodeInstruction 0x000022B7 = .error .notInTable ∧ decodeInstruction 0x00032283 = .error .notInTable ∧
    decodeInstruction 0x12000073 = .error .notInTable ∧ sfenceWord 0x12000073 = true ∧ sfenceWord 0x13FF8073 = true ∧
    sfenceWord 0x000022B7 = false ∧ sfenceWord 0x120000F3 = false ∧ sfenceWord 0x10000073 = false ∧
    u.curPrivilege = .supervisor ∧ u.mstatus.getLsbD 20 = true ∧ u.faulted = false ∧
    c64.mstatus.getLsbD 20 = false ∧ ({ c64 with faulted := true } : State).faulted = true ∧
    (waiting c64 (.exception 2 0 Inputs.idle)).pending = [.exception 2 0 Inputs.idle] ∧
    low c64.params.xlen c64.pc = c64.pc := by decide

theorem witness_HaltedBlockAnswersHalted :
    Instr.reset.wellFormed = true ∧ Instr.wfi.wellFormed = true ∧ ({ c64 with faulted := true } : State).faulted = true := by
  decide

theorem witness_EveryInstructionAnswers :
    Instr.ecall.wellFormed = true ∧ (Instr.accessCheckWrite 0xFFF).wellFormed = true := by decide

theorem witness_ExceptionPcReadAndWritten : c32.faulted = false ∧ hasC c32 = true ∧ hasC { c32 with misa := 0x40141129 } = false := by
  decide

theorem witness_UnassignedNumbersRejected :
    c64.faulted = false ∧ (0 : BitVec 12) ∉ assignedNumbers .rv32 ∧ (0xFFF : BitVec 12) ∉ assignedNumbers .rv32 ∧
    (0x101 : BitVec 12) ∉ assignedNumbers .rv32 ∧ c64.params.xlen = .rv64 := by decide

/-- Each branch of R233 for C, D and F. -/
theorem witness_MisaWrite :
    c64.faulted = false ∧ c64.port.caps.writableMisa = true ∧ c64.port.caps.rvcBoot = true ∧
    c64.port.nextPc.getLsbD 1 = false ∧ c64.port.caps.vetoDisableC = false ∧
    misaBitAfterWrite c64 2 = false ∧
    misaBitAfterWrite { c64 with port := { c64.port with nextPc := 2 } } 2 = true ∧
    misaBitAfterWrite { c64 with port := { c64.port with wdata := 0x8 } } 3 = true ∧
    misaBitAfterWrite { c64 with port := { c64.port with wdata := 0x20 } } 3 = false := by decide

/-- Harts with and without N and U. -/
theorem witness_MstatusWrite :
    c64N.faulted = false ∧ hasN c64N = true ∧ hasN c64 = false ∧ hasU c64 = true ∧ hasU c64noU = false := by decide

theorem witness_InterruptRegistersWrite :
    c64N.faulted = false ∧ hasU c64N = true ∧ hasN c64N = true ∧ hasN c64 = false := by decide

/-- Each of the four modes of the written trap vector. -/
theorem witness_TrapVectorsWrite :
    c64.faulted = false ∧ (1 : Word).getLsbD 1 = false ∧ (2 : Word).getLsbD 1 = true ∧ (3 : Word).getLsbD 1 = true := by
  decide

/-- A 32-bit satp; a privilege without an architecture; recognized modes; a mode that is not recognized. -/
theorem witness_SatpWrite :
    c32.faulted = false ∧ c32.params.xlen = .rv32 ∧ c64.params.xlen = .rv64 ∧
    archBits { c64 with curPrivilege := .user, mstatus := 0 } = 0 ∧
    archBits c64 = 2 ∧ c64.params.haveSv48 = true ∧
    ((0x9000000000000001 : Word).extractLsb' 60 4).toNat = 9 ∧ ((0x8000000000000001 : Word).extractLsb' 60 4).toNat = 8 ∧
    ((0x0FFFFFFFFFFFFFFF : Word).extractLsb' 60 4).toNat = 0 ∧ ((0xA000000000000000 : Word).extractLsb' 60 4).toNat = 10 ∧
    archBits { c64 with misa := 0x4000000000000000 } = 1 := by decide

theorem witness_DelegatedViewsWrite :
    let s : State := { c64N with mideleg := 0x333 }
    s.faulted = false ∧ s.mideleg.getLsbD 0 = true ∧ s.mideleg.getLsbD 9 = true ∧ hasN s = true ∧ hasU s = true ∧
    s.medeleg.getLsbD 8 = false := by decide

theorem witness_UndelegatedBitsKept :
    exec .csrWriteSip c64 = .next { c64 with out := .ok none } ∧
    exec .csrWriteSie { c64 with mideleg := 0x222, mie := 0x8 } = .next { c64 with mideleg := 0x222, mie := 0x8, out := .ok none } ∧
    exec .csrWriteSideleg c64 = .next { c64 with out := .ok none } ∧
    exec .csrWriteSedeleg c64 = .next { c64 with out := .ok none } := ⟨rfl, rfl, rfl, rfl⟩

/-- E3. -/
theorem witness_SstatusRoundTrip :
    let s : State := { c64 with mstatus := 0x8000000A007E79AA }
    s.faulted = false ∧ s.mstatus.getLsbD (s.params.xlen.bits - 1) = dirty s.mstatus ∧
    exec .csrReadSstatus s = .next { s with out := .ok (some 0x80000002000C6122) } := ⟨by decide, by decide, rfl⟩

theorem witness_RawReads : c64.faulted = false ∧ c64.params.xlen = .rv64 ∧ c32.faulted = false ∧ c32.params.xlen = .rv32 := by
  decide

theorem witness_RawRefusals :
    c64.faulted = false ∧ (0xFFF : BitVec 12) ∉ assignedNumbers c64.params.xlen ∧
    (0xB82 : BitVec 12) ∉ assignedNumbers c64.params.xlen ∧ (0x100 : BitVec 12) ∈ viewNumbers ∧
    (0x144 : BitVec 12) ∈ viewNumbers ∧ (0xF11 : BitVec 12) ∈ readOnlyNumbers ∧ (0xF14 : BitVec 12) ∈ readOnlyNumbers := by
  decide

/-- Each privilege code and the one that names no level. -/
theorem witness_InternalWrites :
    c64.faulted = false ∧ ((0 : Word).extractLsb' 0 2).toNat = levelOf .user ∧
    ((1 : Word).extractLsb' 0 2).toNat = levelOf .supervisor ∧ ((3 : Word).extractLsb' 0 2).toNat = levelOf .machine ∧
    ((2 : Word).extractLsb' 0 2).toNat = 2 := by decide

/-- V-R-1 to V-R-3. -/
theorem witness_EffectivePrivilege :
    c64.faulted = false ∧ c64.mstatus.getLsbD 17 = false ∧ (0xA00020000 : Word).getLsbD 17 = true ∧
    (0xA00020000 : Word).extractLsb' 11 2 ≠ 0b10 ∧ (0xA00021000 : Word).getLsbD 17 = true ∧
    (0xA00021000 : Word).extractLsb' 11 2 = 0b10 := by decide

theorem witness_ResetIsLegal : c64.Legal := by
  refine ⟨⟨by decide, by decide, by decide, by decide⟩, ?_, ⟨by decide, by decide, by decide, by decide⟩,
    ⟨by decide, by decide, by decide⟩, ?_, ?_⟩
  · unfold MisaLegal; decide
  · constructor <;> (unfold Fits; decide)
  · constructor <;> (unfold Fits; decide)

theorem witness_CurrentArchitecture :
    c64.faulted = false ∧ archBits c64 ≠ 0 ∧ archBits { c64 with curPrivilege := .supervisor, mstatus := 0 } = 0 ∧ c64.Legal :=
  ⟨by decide, by decide, by decide, witness_ResetIsLegal⟩

theorem witness_RetireCounts :
    c64.faulted = false ∧ c64.minstretWritten = false ∧
    ({ c64 with minstretWritten := true } : State).minstretWritten = true := by decide

theorem witness_CountersChangeOnlyBy :
    Instr.retire.channel = .command ∧
    exec .retire c64 = .next { c64 with minstret := 1, out := .ok none } ∧
    touchesInstret .csrReadMisa = false ∧ setsInstretFlag .retire = false ∧ touchesMcycle .retire = false ∧
    touchesMtime .retire = false ∧ touchesInstret (.rawWrite 0xB00) = false :=
  ⟨rfl, rfl, rfl, rfl, rfl, rfl, by decide⟩

theorem witness_PrivilegeChangesOnlyBy :
    Instr.csrWriteMstatus.channel = .command ∧ (nextOf (exec .csrWriteMstatus c64)).isSome = true ∧
    touchesPrivilege .csrWriteMstatus = false ∧ Instr.reset.channel = .command ∧
    (nextOf (exec .reset c64)).isSome = true ∧ c64.faulted = false ∧
    hostMaySend false (word 0x30000344).inputs.cmd = true ∧ (nextOf (step (waiting c64 (word 0x30000344)))).isSome = true ∧
    hostMaySend false (word 0x50000003).inputs.cmd = true ∧ hostMaySend false (word 0x50000000).inputs.cmd = false := by
  decide

theorem witness_RejectionsAndFaultsWriteNothing :
    exec .xretMret { c64 with curPrivilege := .user } =
      .next { c64 with curPrivilege := .user, out := .rejected .privilege } ∧
    exec .curArch { c64 with curPrivilege := .user, mstatus := 0 } =
      .next { c64 with curPrivilege := .user, mstatus := 0, faulted := true, out := .fault .invalidArch } := ⟨rfl, rfl⟩

theorem witness_ReadsAndQueriesWriteNothing :
    exec (Csr.mip).readInstr c64 = .next { c64 with out := .ok (some 0) } ∧
    exec (IntReg.mtime).readInstr c64 = .next { c64 with out := .ok (some 0) } ∧
    exec (.rawRead 0x341) c64 = .next { c64 with out := .ok (some 0) } ∧
    exec (.accessCheckRead 0xC00) c64 = .next { c64 with out := .ok (some 0) } ∧
    Instr.curArch ∈ queries ∧ Instr.tvecAddrM ∉ [Instr.effPrivRead, .effPrivWrite, .effPrivReadWrite, .curArch] ∧
    exec .curArch c64 = .next { c64 with out := .ok (some 2) } :=
  ⟨rfl, rfl, rfl, rfl, by decide, by decide, rfl⟩

/-- V-T-1, and an interrupt through a vectored mtvec (V-T-8); the largest code that fits at XLEN=64. -/
theorem witness_TrapIntoMachine :
    let s : State :=
      { c64 with curPrivilege := .user, mtvec := 0x80000001, port := { Inputs.idle with wdata := 9, epc := 0x40 } }
    let t : State := { c64 with port := { Inputs.idle with wdata := 0x7FFFFFFFFFFFFFFF } }
    s.faulted = false ∧ (data s).toNat < 2 ^ (s.params.xlen.bits - 1) ∧ goesToSupervisor true s = false ∧
    goesToSupervisor false s = false ∧
    target s.params.xlen s.mtvec (causeOf s.params.xlen true (data s)) = some 0x80000024 ∧
    target s.params.xlen s.mtvec (causeOf s.params.xlen false (data s)) = some 0x80000000 ∧
    (data t).toNat < 2 ^ (t.params.xlen.bits - 1) ∧ goesToSupervisor false t = false ∧
    target t.params.xlen t.mtvec (causeOf t.params.xlen false (data t)) = some 0 := by decide

/-- V-T-17, and a delegated interrupt. -/
theorem witness_TrapIntoSupervisor :
    let s : State :=
      { c64 with curPrivilege := .user, medeleg := 0x100, stvec := 0x80200000, port := { Inputs.idle with wdata := 8 } }
    let t : State := { c64 with curPrivilege := .supervisor, mideleg := 0x20, port := { Inputs.idle with wdata := 5 } }
    s.faulted = false ∧ (data s).toNat < 2 ^ (s.params.xlen.bits - 1) ∧ goesToSupervisor false s = true ∧
    target s.params.xlen s.stvec (causeOf s.params.xlen false (data s)) = some 0x80200000 ∧
    t.faulted = false ∧ (data t).toNat < 2 ^ (t.params.xlen.bits - 1) ∧ goesToSupervisor true t = true ∧
    target t.params.xlen t.stvec (causeOf t.params.xlen true (data t)) = some 0 := by decide

/-- V-T-6 at the first code that does not fit, and V-T-7 for each target level. -/
theorem witness_TrapRefusals :
    let r : State := { c64 with port := { Inputs.idle with wdata := 0x8000000000000000 } }
    let m : State := { c64 with mtvec := 0x80000002 }
    let u : State := { c64 with curPrivilege := .user, medeleg := 1, stvec := 3 }
    r.faulted = false ∧ 2 ^ (r.params.xlen.bits - 1) ≤ (data r).toNat ∧
    m.faulted = false ∧ (data m).toNat < 2 ^ (m.params.xlen.bits - 1) ∧ goesToSupervisor false m = false ∧
    m.mtvec.getLsbD 1 = true ∧ goesToSupervisor false u = true ∧ u.stvec.getLsbD 1 = true := by decide

theorem witness_MachineReturn :
    c64.faulted = false ∧ c64.curPrivilege = .machine ∧ (c64.mstatus.extractLsb' 11 2).toNat = levelOf .user ∧
    ((0x800 : Word).extractLsb' 11 2).toNat = levelOf .supervisor ∧ ((0x1800 : Word).extractLsb' 11 2).toNat = levelOf .machine ∧
    (0x1000 : Word).extractLsb' 11 2 = 0b10 ∧ ({ c64 with curPrivilege := .user } : State).curPrivilege ≠ .machine := by
  decide

theorem witness_SupervisorReturn :
    let s : State := { c64 with curPrivilege := .supervisor, mstatus := 0x0000000A00400000 }
    let u : State := { c64 with curPrivilege := .user }
    s.faulted = false ∧ (s.curPrivilege = .supervisor ∧ s.mstatus.getLsbD 22 = true) ∧
    u.curPrivilege = .user ∧ ¬ (c64.curPrivilege = .user ∨ (c64.curPrivilege = .supervisor ∧ c64.mstatus.getLsbD 22 = true)) := by
  decide

/-- A legal draw and one with a reserved trap-vector mode, at both XLEN. -/
theorem witness_ResetState :
    c64.faulted = false ∧ c64.port.draw.mtvec.getLsbD 1 = false ∧ c64.port.draw.mepc.getLsbD 0 = false ∧
    c64.params.xlen = .rv64 ∧ (c64.port.draw.satp.extractLsb' 60 4).toNat ∈ [0, 8, 9] ∧
    c32.params.xlen = .rv32 ∧ c32.faulted = false := by decide

/-- A machine register at Machine level, satp at Supervisor level. -/
theorem witness_CsrSwapInstructions :
    let s : State := { c64 with curPrivilege := .supervisor }
    c64.faulted = false ∧ mayAccess true Csr.mscratch.addr c64 = true ∧
    s.faulted = false ∧ mayAccess true Csr.satp.addr s = true ∧ archBits s ≠ 0 := by decide

theorem witness_CsrModifyInstructions :
    c64.faulted = false ∧ mayAccess false Csr.mhartid.addr c64 = true ∧ mayAccess true Csr.mstatus.addr c64 = true ∧
    mayAccess true Csr.satp.addr c64 = true ∧ archBits c64 ≠ 0 ∧ (31 : BitVec 5) ≠ 0 := by decide

/-- A write of mhartid, a read of an unassigned number, and a machine register at User level. -/
theorem witness_RefusedCsrInstructionsTrap :
    c64.faulted = false ∧ low c64.params.xlen c64.pc = c64.pc ∧ mayAccess true 0xF14 c64 = false ∧
    mayAccess (decide ((0 : BitVec 5) ≠ 0)) 0xC00 c64 = false ∧ mayAccess (decide ((1 : BitVec 5) ≠ 0)) 0xF14 c64 = false ∧
    mayAccess false 0x300 { c64 with curPrivilege := .user } = false := by decide

theorem witness_CallAndBreakpointTrap : c64.faulted = false ∧ low c64.params.xlen c64.pc = c64.pc := by decide

/-- A return, a rejected XRET and one that faults. -/
theorem witness_ReturnInstructions :
    c64.faulted = false ∧ low c64.params.xlen c64.pc = c64.pc ∧ c64.curPrivilege = .machine ∧
    (c64.mstatus.extractLsb' 11 2).toNat = levelOf .user ∧ c64.curPrivilege ≠ .user ∧
    ¬ (c64.curPrivilege = .supervisor ∧ c64.mstatus.getLsbD 22 = true) ∧
    (nextOf (exec .xretMret c64)).map (·.out) = some (.ok (some 0)) ∧
    (nextOf (exec .xretMret { c64 with curPrivilege := .user })).map (·.out) = some (.rejected .privilege) ∧
    (nextOf (exec .xretSret { c64 with curPrivilege := .user })).map (·.out) = some (.rejected .privilege) ∧
    (nextOf (exec .xretMret { c64 with mstatus := 0x1000 })).map (·.out) = some (.fault .invalidPrivilege) := by decide

theorem witness_WaitForInterrupt :
    let s : State := { c64 with curPrivilege := .user, mstatus := 0x0000000A00200000 }
    c64.faulted = false ∧ c64.curPrivilege = .machine ∧ c64.mstatus.getLsbD 21 = false ∧
    s.faulted = false ∧ s.curPrivilege ≠ .machine ∧ s.mstatus.getLsbD 21 = true ∧ low s.params.xlen s.pc = s.pc := by decide

/-- The machine timer is due; with nothing pending none is. -/
theorem witness_InterruptArbitration :
    let s : State := { waiting c64 (.interrupt Inputs.idle) with mip := 0x80, mie := 0x80, mstatus := 0x0000000A00000008 }
    s.pending = [.interrupt Inputs.idle] ∧ s.faulted = false ∧ low s.params.xlen s.pc = s.pc ∧ Due s 7 ∧ (∀ n, ¬ Due c64 n) := by
  refine ⟨by decide, by decide, by decide, ⟨[11, 3], [9, 1, 5, 8, 0, 4], rfl, by decide, by decide⟩, ?_⟩
  rintro n ⟨_, _, _, h, _⟩
  rw [show dueMask c64 = 0#64 by decide, BitVec.getLsbD_zero] at h
  cases h

theorem witness_StepKeepsLegal :
    c64.Legal ∧ step c64 = .next c64 ∧ (nextOf (step (waiting c64 (word 0xF0000000)))).isSome = true :=
  ⟨witness_ResetIsLegal, rfl, by decide⟩

theorem witness_DirtyBitIsDerived :
    writesMstatus .csrWriteMstatus = true ∧ writesMstatus (.rawWrite 0x300) = true ∧
    exec .csrWriteMstatus c64 = .next { c64 with out := .ok none } ∧
    exec (.rawWrite 0x300) c64 = .next { c64 with out := .ok none } :=
  ⟨rfl, by decide, rfl, rfl⟩

theorem witness_FieldCodec :
    Mstatus.mpp.lo ≤ Mstatus.mpp.hi ∧ Mstatus.mpp.hi < 64 ∧ Mstatus.mpp.hi < (Mstatus.sd .rv64).lo ∧
    (Mstatus.sd .rv64).hi < 64 ∧ Mstatus.mie.hi < Mstatus.mpp.lo := by decide

end Sys2Proof.Tests
end

namespace Sys2Proof

/-! ### A command word is the word of what it decodes to

Of the decoder's soundness only what the effects of a decoded command need: its word and its channel. -/

theorem encode_csrReadRow (addr : BitVec 12) :
    encode (csrReadRow addr) = cmdWord 0 0 addr ∧ (csrReadRow addr).channel = .command := by
  cases h : Csr.ofAddr addr with
  | none => simp only [csrReadRow, h]; exact ⟨rfl, rfl⟩
  | some c =>
    obtain rfl := (Csr.ofAddr_eq_some_iff addr c).1 h
    rw [csrReadRow_addr]
    cases c <;> exact ⟨rfl, rfl⟩

theorem encode_csrWriteRow (addr : BitVec 12) :
    encode (csrWriteRow addr) = cmdWord 1 0 addr ∧ (csrWriteRow addr).channel = .command := by
  cases h : Csr.ofAddr addr with
  | none => simp only [csrWriteRow, h]; exact ⟨rfl, rfl⟩
  | some c =>
    obtain rfl := (Csr.ofAddr_eq_some_iff addr c).1 h
    rw [csrWriteRow_addr]
    cases c <;> exact ⟨rfl, rfl⟩

/-- The command a lookup gives under a condition on another field. -/
theorem lookedUpIf_eq_ok {P : Prop} [Decidable P] {o : Option Instr} {i : Instr}
    (h : (if P then lookedUp o else .error .reservedEncoding) = Except.ok i) : P ∧ o = some i := by
  split at h
  · cases o <;> cases h
    exact ⟨by assumption, rfl⟩
  · cases h

theorem plainCommand_eq_ok {sub : BitVec 4} {addr : BitVec 12} {i j : Instr} (h : plainCommand sub addr j = .ok i) :
    sub = 0 ∧ addr = 0 ∧ i = j := by
  unfold plainCommand at h
  split at h
  · rename_i hz; cases h; exact ⟨hz.1, hz.2, rfl⟩
  · cases h

theorem addrCommand_eq_ok {sub : BitVec 4} {i j : Instr} (h : addrCommand sub j = .ok i) : sub = 0 ∧ i = j := by
  unfold addrCommand at h
  split at h
  · rename_i hz; cases h; exact ⟨hz, rfl⟩
  · cases h

/-- The command of a word whose SUB picks one of two forms. -/
theorem eitherCommand_eq_ok {sub : BitVec 4} {i i₀ i₁ : Instr}
    (h : (if sub = 0 then .ok i₀ else if sub = 1 then .ok i₁ else .error .reservedEncoding : Decoded) = .ok i) :
    sub = 0 ∧ i = i₀ ∨ sub = 1 ∧ i = i₁ := by
  split at h
  · rename_i h₀; cases h; exact .inl ⟨h₀, rfl⟩
  · split at h
    · rename_i h₁; cases h; exact .inr ⟨h₁, rfl⟩
    · cases h

theorem pairCommand_eq_ok {sub : BitVec 4} {addr : BitVec 12} {i i₀ i₁ : Instr}
    (h : pairCommand sub addr i₀ i₁ = .ok i) : addr = 0 ∧ (sub = 0 ∧ i = i₀ ∨ sub = 1 ∧ i = i₁) := by
  unfold pairCommand at h
  split at h
  · cases h
  · rename_i ha; exact ⟨not_not.1 ha, eitherCommand_eq_ok h⟩

theorem effPrivRow_eq_some {sub : BitVec 4} {i : Instr} (h : effPrivRow sub = some i) :
    encode i = cmdWord 6 sub 0 ∧ i.channel = .command := by
  obtain ⟨k, hk, rfl⟩ : ∃ k < 16, sub = BitVec.ofNat 4 k := ⟨sub.toNat, sub.isLt, by simp⟩
  interval_cases k <;> cases h <;> exact ⟨rfl, rfl⟩

/-- A decoded operation is a command, and its word holds the fields it was decoded from. -/
theorem encode_of_decodeOp {op sub : BitVec 4} {addr : BitVec 12} {i : Instr} (h : decodeOp op sub addr = .ok i) :
    encode i = cmdWord op sub addr ∧ i.channel = .command := by
  obtain ⟨k, hk, rfl⟩ : ∃ k < 16, op = BitVec.ofNat 4 k := ⟨op.toNat, op.isLt, by simp⟩
  interval_cases k
  · -- CSR_READ
    obtain ⟨rfl, rfl⟩ := addrCommand_eq_ok (j := csrReadRow addr) h
    exact encode_csrReadRow addr
  · -- CSR_WRITE
    obtain ⟨rfl, rfl⟩ := addrCommand_eq_ok (j := csrWriteRow addr) h
    exact encode_csrWriteRow addr
  · -- RAW_READ
    obtain ⟨rfl, rfl⟩ := addrCommand_eq_ok (j := .rawRead addr) h
    exact ⟨rfl, rfl⟩
  · -- RAW_WRITE
    obtain ⟨rfl, rfl⟩ := addrCommand_eq_ok (j := .rawWrite addr) h
    exact ⟨rfl, rfl⟩
  · -- INT_READ
    obtain ⟨rfl, hi⟩ := lookedUpIf_eq_ok (o := (IntReg.ofSel addr).map IntReg.readInstr) h
    obtain ⟨r, hr, rfl⟩ := Option.map_eq_some_iff.1 hi
    obtain rfl := (IntReg.ofSel_eq_some_iff addr r).1 hr
    cases r <;> exact ⟨rfl, rfl⟩
  · -- INT_WRITE
    obtain ⟨rfl, hi⟩ := lookedUpIf_eq_ok (o := (IntReg.ofSel addr).map IntReg.writeInstr) h
    obtain ⟨r, hr, rfl⟩ := Option.map_eq_some_iff.1 hi
    obtain rfl := (IntReg.ofSel_eq_some_iff addr r).1 hr
    cases r <;> exact ⟨rfl, rfl⟩
  · -- EFF_PRIV
    obtain ⟨rfl, hi⟩ := lookedUpIf_eq_ok (o := effPrivRow sub) h
    exact effPrivRow_eq_some hi
  · -- CUR_ARCH
    obtain ⟨rfl, rfl, rfl⟩ := plainCommand_eq_ok (j := .curArch) h
    exact ⟨rfl, rfl⟩
  · -- TVEC_ADDR
    obtain ⟨rfl, ⟨rfl, rfl⟩ | ⟨rfl, rfl⟩⟩ := pairCommand_eq_ok (i₀ := .tvecAddrM) (i₁ := .tvecAddrS) h
    all_goals exact ⟨rfl, rfl⟩
  · -- PC_ALIGN_MASK
    obtain ⟨rfl, rfl, rfl⟩ := plainCommand_eq_ok (j := .pcAlignMask) h
    exact ⟨rfl, rfl⟩
  · -- HAVE_EXT
    obtain ⟨rfl, hi⟩ := lookedUpIf_eq_ok (o := (Ext.ofId sub).map Ext.haveInstr) h
    obtain ⟨e, he, rfl⟩ := Option.map_eq_some_iff.1 hi
    obtain rfl := (Ext.ofId_eq_some_iff sub e).1 he
    cases e <;> exact ⟨rfl, rfl⟩
  · -- RETIRE
    obtain ⟨rfl, rfl, rfl⟩ := plainCommand_eq_ok (j := .retire) h
    exact ⟨rfl, rfl⟩
  · -- ACCESS_CHECK
    obtain ⟨rfl, rfl⟩ | ⟨rfl, rfl⟩ := eitherCommand_eq_ok (i₀ := .accessCheckRead addr) (i₁ := .accessCheckWrite addr) h
    all_goals exact ⟨rfl, rfl⟩
  · -- TRAP_ENTER
    obtain ⟨rfl, ⟨rfl, rfl⟩ | ⟨rfl, rfl⟩⟩ := pairCommand_eq_ok (i₀ := .trapEnterException) (i₁ := .trapEnterInterrupt) h
    all_goals exact ⟨rfl, rfl⟩
  · -- XRET
    obtain ⟨rfl, ⟨rfl, rfl⟩ | ⟨rfl, rfl⟩⟩ := pairCommand_eq_ok (i₀ := .xretMret) (i₁ := .xretSret) h
    all_goals exact ⟨rfl, rfl⟩
  · -- RESET
    obtain ⟨rfl, rfl, rfl⟩ := plainCommand_eq_ok (j := .reset) h
    exact ⟨rfl, rfl⟩

theorem encode_of_decodeCommand {w : BitVec 32} {i : Instr} (h : decodeCommand w = .ok i) :
    encode i = w ∧ i.channel = .command := by
  unfold decodeCommand at h
  split at h
  · cases h
  · rename_i hrsv
    obtain ⟨hi, hc⟩ := encode_of_decodeOp h
    exact ⟨hi.trans (cmdWord_fields (not_not.1 hrsv)), hc⟩

end Sys2Proof

namespace Sys2Proof.Machine

open Sys2Proof.Claims

/-! ### What a command of the block leaves -/

/-- What an internal write changes at most: the register itself. -/
theorem intWrite_frame (r : IntReg) (p : Inputs) (s : State) :
    intWrite r p s =
      { s with
        curPrivilege := if r = .curPrivilege then (intWrite r p s).curPrivilege else s.curPrivilege
        curInst := if r = .curInst then (intWrite r p s).curInst else s.curInst
        minstretWritten := if r = .minstretWritten then (intWrite r p s).minstretWritten else s.minstretWritten
        mtime := if r = .mtime then (intWrite r p s).mtime else s.mtime
        mcycle := if r = .mcycle then (intWrite r p s).mcycle else s.mcycle
        minstret := if r = .minstret then (intWrite r p s).minstret else s.minstret
        out := (intWrite r p s).out } := by
  rcases intWrite_cases r p s with h | ⟨rfl, q, -, h⟩ | ⟨rfl, h⟩ | ⟨rfl, h⟩ | ⟨rfl, h⟩ | ⟨rfl, h⟩ | ⟨rfl, h⟩
  · rw [h.frame]; cases r <;> rfl
  all_goals rw [h]; rfl

theorem trapEnter_keepsHost (interrupt : Bool) (code tval epc : Word) (s : State) :
    (trapEnter interrupt code tval epc s).pc = s.pc ∧ (trapEnter interrupt code tval epc s).x = s.x := by
  rcases trapEnter_cases interrupt code tval epc s with h | h | ⟨-, _, -, h⟩ | ⟨-, _, -, h⟩
  · rw [h.frame]; exact ⟨rfl, rfl⟩
  all_goals rw [h]; exact ⟨rfl, rfl⟩

/-- No command of the block moves the pc or writes a general register (00_scope.md R10, R32). -/
theorem CommandEffect.keepsHost {i : Instr} {s t : State} (h : CommandEffect s i t) : t.pc = s.pc ∧ t.x = s.x := by
  cases h with
  | answers h => rw [h.frame]; exact ⟨rfl, rfl⟩
  | effPrivFails => exact ⟨rfl, rfl⟩
  | curArchFails => exact ⟨rfl, rfl⟩
  | csrWrite c => rw [writeCsr_frame]; exact ⟨rfl, rfl⟩
  | rawWrite c => rw [rawCommit_frame]; exact ⟨rfl, rfl⟩
  | intWrite r => rw [intWrite_frame]; exact ⟨rfl, rfl⟩
  | retire =>
    rcases retireInstruction_cases s with h | ⟨-, h⟩
    · rw [h.frame]; exact ⟨rfl, rfl⟩
    · rw [h]; exact ⟨rfl, rfl⟩
  | trapException => exact trapEnter_keepsHost _ _ _ _ s
  | trapInterrupt => exact trapEnter_keepsHost _ _ _ _ s
  | machineReturn =>
    rcases machineReturn_cases s with h | h | ⟨_, -, -, h⟩
    · rw [h.frame]; exact ⟨rfl, rfl⟩
    all_goals rw [h]; exact ⟨rfl, rfl⟩
  | supervisorReturn =>
    rcases supervisorReturn_cases s with h | ⟨-, h⟩
    · rw [h.frame]; exact ⟨rfl, rfl⟩
    · rw [h]; exact ⟨rfl, rfl⟩
  | reset =>
    rcases resetCommand_cases s.port s with h | ⟨-, h⟩
    · rw [h.frame]; exact ⟨rfl, rfl⟩
    · rw [h]; exact ⟨rfl, rfl⟩

/-- A command that R540 does not list leaves the privilege level. -/
theorem CommandEffect.keepsPrivilege {i : Instr} {s t : State} (h : CommandEffect s i t)
    (hi : touchesPrivilege i = false) : t.curPrivilege = s.curPrivilege := by
  cases h with
  | answers h => rw [h.frame]
  | effPrivFails => rfl
  | curArchFails => rfl
  | csrWrite c => rw [writeCsr_frame]
  | rawWrite c => rw [rawCommit_frame]; rfl
  | intWrite r =>
    rw [intWrite_frame]
    exact if_neg (by rintro rfl; cases hi)
  | retire =>
    rcases retireInstruction_cases s with h | ⟨-, h⟩
    · rw [h.frame]
    · rw [h]
  | trapException | trapInterrupt | machineReturn | supervisorReturn | reset => cases hi

theorem resetCommand_curPrivilege {s : State} (hf : s.faulted = false) (p : Inputs) :
    (resetCommand p s).curPrivilege = .machine := by
  rw [resetCommand, State.command_running hf]
  rfl

/-! ### What the host's contract lets a bare command change (log 27) -/

theorem hostMaySend_csrWrite (c : Csr) : hostMaySend false (encode c.writeInstr) = false := by
  cases c <;> decide

theorem eq_of_hostMaySend_rawWrite {c : Csr} (h : hostMaySend false (encode (.rawWrite c.addr)) = true) :
    c = .mip ∨ c = .mcycle ∨ c = .mcycleh := by
  cases c <;> revert h <;> decide

/-- Outside the platform's registers and the host's bookkeeping, `t` is `s`. -/
def PlatformFrame (s t : State) : Prop :=
  t = { s with
    mip := t.mip, mcycle := t.mcycle, mtime := t.mtime, minstret := t.minstret,
    minstretWritten := t.minstretWritten, curInst := t.curInst, faulted := t.faulted, out := t.out }

theorem Answers.platformFrame {s t : State} (h : Answers s t) : PlatformFrame s t := by
  rw [h.frame]; exact rfl

theorem CommandEffect.platformFrame {i : Instr} {s t : State} (h : CommandEffect s i t)
    (hi : hostMaySend false (encode i) = true) : PlatformFrame s t := by
  cases h with
  | answers h => exact h.platformFrame
  | effPrivFails => exact rfl
  | curArchFails => exact rfl
  | csrWrite c => rw [hostMaySend_csrWrite] at hi; cases hi
  | rawWrite c => obtain rfl | rfl | rfl := eq_of_hostMaySend_rawWrite hi <;> exact rfl
  | intWrite r =>
    have hr : r ≠ .curPrivilege := by rintro rfl; revert hi; decide
    rw [intWrite_frame, if_neg hr]
    exact rfl
  | retire | trapException | trapInterrupt | machineReturn | supervisorReturn | reset => exact absurd hi (by decide)

/-- A command word that decodes runs its instruction. -/
theorem step_of_command {s : State} {p : Inputs} {rest : List Request} {i : Instr}
    (hp : s.pending = .command p :: rest) (hd : decodeCommand p.cmd = .ok i) : step s = exec i (s.load p rest) := by
  simp only [step, hp, hd]

theorem step_of_reserved {s : State} {p : Inputs} {rest : List Request} {e : DecodeError}
    (hp : s.pending = .command p :: rest) (hd : decodeCommand p.cmd = .error e) :
    step s = .next (rejectReserved (s.load p rest)) := by
  simp only [step, hp, hd]

/-- Settles O40: both parts are read off the effects a command can have. -/
theorem privilegeChangesOnlyBy : Obligations.PrivilegeChangesOnlyBy := by
  refine ⟨fun i s t hc h => ⟨(commandEffect hc h).keepsPrivilege, ?_, (commandEffect hc h).keepsHost⟩, ?_⟩
  · rintro rfl hf
    cases h
    exact resetCommand_curPrivilege hf s.port
  · intro s t p rest hp hsend h
    have frame : PlatformFrame (s.load p rest) t := by
      cases hd : decodeCommand p.cmd with
      | ok i =>
        obtain ⟨hw, hc⟩ := encode_of_decodeCommand hd
        rw [step_of_command hp hd] at h
        exact (commandEffect hc h).platformFrame (by rwa [hw])
      | error e =>
        rw [step_of_reserved hp hd] at h
        cases h
        exact (State.command_answers (fun s => .reject s _) _).platformFrame
    exact frame

end Sys2Proof.Machine

namespace Sys2Proof.Machine

open Sys2Proof.Claims

/-! ### The host's traps are runs of TRAP_ENTER -/

theorem low_eq_trunc (x : Xlen) (v : Word) : low x v = x.trunc v := by
  apply word_ext
  intro n hn
  simp only [low, Xlen.getLsbD_trunc, BitVec.getLsbD_setWidth, hn, decide_true, Bool.true_and]

theorem trunc_setWidth_word (x : Xlen) (w : BitVec 32) : x.trunc (w.setWidth 64) = w.setWidth 64 := by
  apply word_ext
  intro n hn
  rw [Xlen.getLsbD_trunc, BitVec.getLsbD_setWidth]
  by_cases h : n < 32
  · have : n < x.bits := by cases x <;> simp only [Xlen.bits] <;> omega
    simp [this]
  · simp [BitVec.getLsbD_of_ge w n (by omega)]

/-- TRAP_ENTER takes its operands from its arguments and leaves the port. -/
theorem trapEnter_withPort (interrupt : Bool) (code tval epc : Word) (p : Inputs) (s : State) :
    trapEnter interrupt code tval epc { s with port := p } =
      { trapEnter interrupt code tval epc s with port := p } := by
  have hs : trapToSupervisor interrupt code { s with port := p } = trapToSupervisor interrupt code s := rfl
  unfold trapEnter State.command
  dsimp only
  rw [hs]
  split
  · rfl
  · split
    · rfl
    · cases trapToSupervisor interrupt code s <;> split <;> rfl

theorem trapped_of_ok {u : State} {a : Word} (h : u.out = .ok (some a)) (s : State) :
    trapped u s = { u with port := s.port, pc := a } := by
  simp only [trapped, h]

theorem trapped_of_no_target {u : State} (h : ∀ a, u.out ≠ .ok (some a)) (s : State) :
    trapped u s = { u with port := s.port } := by
  unfold trapped
  split
  · rename_i a ha
    exact absurd ha (h a)
  · rfl

theorem trapped_withPort (u s : State) (p : Inputs) : trapped { u with port := p } s = trapped u s := rfl

/-- The host's trap is TRAP_ENTER under whatever the port holds, and then the pc. -/
theorem hostTrap_eq_trapped (interrupt : Bool) (code tval : Word) (p : Inputs) (s : State) :
    hostTrap interrupt code tval s = trapped (trapEnter interrupt code tval s.pc { s with port := p }) s := by
  have hself := trapEnter_withPort interrupt code tval s.pc s.port s
  have hport : (trapEnter interrupt code tval s.pc s).port = s.port := (congrArg State.port hself :)
  rw [trapEnter_withPort, trapped_withPort]
  rcases hostTrap_cases interrupt code tval s with ⟨target, hout, h⟩ | ⟨hout, h⟩
  · rw [h, trapped_of_ok (a := target) hout, ← hport]
    rfl
  · rw [h, trapped_of_no_target hout, ← hport]

/-- An exception the host raises is TRAP_ENTER on the command port, with the code, the trap value and the pc as operands. -/
theorem raiseException_eq_trapped {s : State} (hpc : low s.params.xlen s.pc = s.pc) (code tval : Word) :
    ∃ t, exec .trapEnterException (drivenTrap s code tval) = .next t ∧ raiseException code tval s = trapped t s := by
  rw [low_eq_trunc] at hpc
  refine ⟨_, rfl, ?_⟩
  rw [raiseException, hostTrap_eq_trapped _ _ _ (drivenTrap s code tval).port]
  simp only [trapEnterFromPort, drivenTrap, Inputs.data, hpc]

theorem trunc_illegalTval (s : State) (word : BitVec 32) :
    s.params.xlen.trunc (illegalTval s word) = illegalTval s word := by
  unfold illegalTval
  split
  · exact trunc_setWidth_word _ _
  · exact BitVec.zero_and

/-- IllegalInstr is the exception with code 2 (60_exceptions.md R510). -/
theorem raiseIllegal_eq_raiseException (word : BitVec 32) (s : State) :
    raiseIllegal word s = raiseException 2 (illegalTval s word) s := by
  have hcode : s.params.xlen.trunc 2 = ExceptionCause.illegalInstr.code := by cases s.params.xlen <;> decide
  simp only [raiseException, hcode, trunc_illegalTval]
  rfl

/-! ### Words outside the table -/

theorem writeX_eq_regsAfter (s : State) (rd : BitVec 5) (v : Word) :
    s.writeX rd v = { s with x := regsAfter s rd v } := by
  unfold State.writeX regsAfter
  split <;> rfl

/-- A completed instruction of the host: x[rd], the RETIRE and the pc. -/
theorem finishAt_writeX {s : State} (h : s.faulted = false) (a : Word) (rd : BitVec 5) (v : Word) :
    finishAt a (s.writeX rd v) = retiredAt { s with x := regsAfter s rd v } a := by
  rw [writeX_eq_regsAfter, finishAt_running (s := { s with x := regsAfter s rd v }) h]
  rfl

theorem getLsbD_eq_of_extractLsb'_eq {v w : BitVec 32} {lo k n : Nat} (h : v.extractLsb' lo k = w.extractLsb' lo k)
    (hlo : lo ≤ n) (hhi : n < lo + k) : v.getLsbD n = w.getLsbD n := by
  have hbit := congrArg (fun u : BitVec k => u.getLsbD (n - lo)) h
  simpa only [BitVec.getLsbD_extractLsb', Nat.add_sub_cancel' hlo, show n - lo < k by omega, decide_true,
    Bool.true_and] using hbit

/-- The bits of SFENCE.VMA that isSfenceVma compares with (log 19). -/
def sfenceMatch : BitVec 32 := 0x12000073

/-- Where isSfenceVma compares them: opcode, rd, funct3 and funct7. -/
def sfenceMask : BitVec 32 := 0xFE007FFF

/-- The fields of SFENCE.VMA are the bits of its match under its mask (log 19). -/
theorem sfenceWord_iff (w : BitVec 32) : sfenceWord w = true ↔ isSfenceVma w = true := by
  have hword : isSfenceVma w = true ↔ w &&& sfenceMask = sfenceMatch := decide_eq_true_iff
  rw [hword]
  simp only [sfenceWord, Bool.and_eq_true, decide_eq_true_eq]
  constructor
  · rintro ⟨⟨⟨hop, hrd⟩, hf⟩, hfunct⟩
    have hop : w.extractLsb' 0 7 = sfenceMatch.extractLsb' 0 7 := hop
    have hrd : w.extractLsb' 7 5 = sfenceMatch.extractLsb' 7 5 := hrd
    have hf : w.extractLsb' 12 3 = sfenceMatch.extractLsb' 12 3 := hf
    have hfunct : w.extractLsb' 25 7 = sfenceMatch.extractLsb' 25 7 := hfunct
    apply BitVec.eq_of_getLsbD_eq
    intro n hn
    rw [BitVec.getLsbD_and]
    cases hm : sfenceMask.getLsbD n
    · rw [Bool.and_false]; revert n; decide
    · have hfields : n < 7 ∨ (7 ≤ n ∧ n < 12) ∨ (12 ≤ n ∧ n < 15) ∨ 25 ≤ n := by revert n; decide
      rw [Bool.and_true]
      rcases hfields with h | ⟨hlo, hhi⟩ | ⟨hlo, hhi⟩ | h
      · exact getLsbD_eq_of_extractLsb'_eq hop n.zero_le (by omega)
      · exact getLsbD_eq_of_extractLsb'_eq hrd hlo hhi
      · exact getLsbD_eq_of_extractLsb'_eq hf hlo hhi
      · exact getLsbD_eq_of_extractLsb'_eq hfunct h hn
  · intro h
    have field (lo k : Nat) (hm : sfenceMask.extractLsb' lo k = BitVec.allOnes k) :
        w.extractLsb' lo k = sfenceMatch.extractLsb' lo k := by
      rw [← h, BitVec.extractLsb'_and, hm, BitVec.and_allOnes]
    exact ⟨⟨⟨field 0 7 rfl, field 7 5 rfl⟩, field 12 3 rfl⟩, field 25 7 rfl⟩

theorem sfenceRefused_iff (s : State) :
    sfenceRefused s = true ↔ s.curPrivilege = .supervisor ∧ s.mstatus.getLsbD 20 = true := by
  rw [sfenceRefused, Bool.and_eq_true, decide_eq_true_eq, decide_eq_true_eq]
  exact and_congr_right fun _ => getField_bit_eq_one s.mstatus 20

/-- The test of outsideInstr, by the fields of the word and the state (45_host_ports.md R436). -/
theorem sfence_refused_iff (w : BitVec 32) (s : State) :
    (isSfenceVma w && sfenceRefused s) = true ↔
      sfenceWord w = true ∧ s.curPrivilege = .supervisor ∧ s.mstatus.getLsbD 20 = true := by
  rw [Bool.and_eq_true, sfenceWord_iff, sfenceRefused_iff]

/-! ### The step on the entries that run no instruction of the table -/

theorem step_of_outside {s : State} {word : BitVec 32} {host : HostResult} {p : Inputs} {rest : List Request}
    {e : DecodeError} (hp : s.pending = .instruction word host p :: rest) (hd : decodeInstruction word = .error e) :
    step s = .next (outsideInstr word host (fetched s word p rest)) := by
  simp only [step, hp, hd]
  rfl

theorem step_of_exception {s : State} {code tval : Word} {p : Inputs} {rest : List Request}
    (hp : s.pending = .exception code tval p :: rest) :
    step s = .next (raiseException code tval { s with port := p, pending := rest }) := by
  simp only [step, hp]
  rfl

/-- Settles O6: the step runs outsideInstr or raiseException there, and each of their outcomes is written out above. -/
theorem stepRunsOtherEntries : Obligations.StepRunsOtherEntries := by
  refine ⟨fun s hp => by simp only [step, hp], ?_, ?_⟩
  · intro s word host p rest e hp hd u refused
    have hstep := step_of_outside hp hd
    refine ⟨fun hf => ?_, fun hf hr hpc => ?_, fun hf hr rd v a hh => ?_, fun hf hr code tval hh hpc => ?_⟩
    · rw [hstep, outsideInstr, State.command_halted (s := u) hf]
    · obtain ⟨t, ht, htrap⟩ := raiseException_eq_trapped (s := u) hpc 2 (illegalTval s word)
      refine ⟨t, ht, ?_⟩
      rw [hstep, outsideInstr_refused (s := u) hf ((sfence_refused_iff word u).2 hr), raiseIllegal_eq_raiseException]
      exact congrArg _ htrap
    · have hr' := Bool.eq_false_iff.2 (mt (sfence_refused_iff word u).1 hr)
      rw [hstep, hh, outsideInstr_retires (s := u) hf hr', finishAt_writeX (s := u) hf, low_eq_trunc, low_eq_trunc]
      rfl
    · have hr' := Bool.eq_false_iff.2 (mt (sfence_refused_iff word u).1 hr)
      obtain ⟨t, ht, htrap⟩ := raiseException_eq_trapped (s := u) hpc code tval
      refine ⟨t, ht, ?_⟩
      rw [hstep, hh, outsideInstr_raises (s := u) hf hr']
      exact congrArg _ htrap
  · intro s code tval p rest hp hpc
    obtain ⟨t, ht, htrap⟩ := raiseException_eq_trapped (s := { s with port := p, pending := rest }) hpc code tval
    exact ⟨t, ht, (step_of_exception hp).trans (congrArg _ htrap)⟩

end Sys2Proof.Machine

namespace Sys2Proof.Machine

open Sys2Proof.Claims

/-! ### Words within a mask, and words that differ within a mask only

The two notions in which Legal states what a register may hold. -/

/-- `v` has no bit outside `k`. -/
abbrev Within {w : Nat} (k v : BitVec w) : Prop := v &&& ~~~k = 0

/-- `u` and `v` agree on every bit outside `k`. -/
def SameOutside (k u v : Word) : Prop := u &&& ~~~k = v &&& ~~~k

theorem within_iff {w : Nat} {k v : BitVec w} :
    Within k v ↔ ∀ n, v.getLsbD n = true → k.getLsbD n = true := by
  have bit (n : Nat) : (v &&& ~~~k).getLsbD n = (v.getLsbD n && !k.getLsbD n) := by
    rw [BitVec.getLsbD_and, BitVec.getLsbD_not]
    by_cases hn : n < w
    · simp [hn]
    · simp [BitVec.getLsbD_of_ge v n (by omega)]
  constructor
  · intro h n hv
    have := bit n
    rw [show v &&& ~~~k = 0 from h, hv] at this
    simpa using this
  · intro h
    apply BitVec.eq_of_getLsbD_eq
    intro n _
    rw [bit]
    cases hv : v.getLsbD n
    · simp
    · simp [h n hv]

theorem sameOutside_iff {k u v : Word} :
    SameOutside k u v ↔ ∀ n < 64, k.getLsbD n = false → u.getLsbD n = v.getLsbD n := by
  have bit (w : Word) (n : Nat) (hn : n < 64) : (w &&& ~~~k).getLsbD n = (w.getLsbD n && !k.getLsbD n) := by
    simp only [BitVec.getLsbD_and, BitVec.getLsbD_not, hn, decide_true, Bool.true_and]
  constructor
  · intro h n hn hk
    have := congrArg (fun w : Word => w.getLsbD n) (show u &&& ~~~k = v &&& ~~~k from h)
    simpa only [bit _ n hn, hk, Bool.not_false, Bool.and_true] using this
  · intro h
    apply word_ext
    intro n hn
    rw [bit u n hn, bit v n hn]
    cases hk : k.getLsbD n
    · rw [h n hn hk]
    · simp

section Within

variable {w : Nat} {k l u v : BitVec w}

theorem Within.mono (h : Within k v) (hkl : Within l k) : Within l v :=
  within_iff.2 fun n hn => within_iff.1 hkl n (within_iff.1 h n hn)

theorem Within.and_right (h : Within k v) (u : BitVec w) : Within k (v &&& u) :=
  within_iff.2 fun n hn => within_iff.1 h n (by
    rw [BitVec.getLsbD_and, Bool.and_eq_true] at hn
    exact hn.1)

theorem within_and (k v : BitVec w) : Within k (v &&& k) :=
  within_iff.2 fun n hn => by
    rw [BitVec.getLsbD_and, Bool.and_eq_true] at hn
    exact hn.2

theorem Within.or (hu : Within k u) (hv : Within k v) : Within k (u ||| v) :=
  within_iff.2 fun n hn => by
    rw [BitVec.getLsbD_or, Bool.or_eq_true] at hn
    exact hn.elim (within_iff.1 hu n) (within_iff.1 hv n)

theorem Within.and_eq (h : Within k v) : v &&& k = v := by
  apply BitVec.eq_of_getLsbD_eq
  intro n _
  rw [BitVec.getLsbD_and]
  cases hv : v.getLsbD n
  · rfl
  · rw [within_iff.1 h n hv]; rfl

theorem Within.setWidth (h : Within k v) (w' : Nat) : Within (k.setWidth w') (v.setWidth w') :=
  within_iff.2 fun n hn => by
    rw [BitVec.getLsbD_setWidth, Bool.and_eq_true] at hn ⊢
    exact ⟨hn.1, within_iff.1 h n hn.2⟩

end Within

theorem Within.mergeBits {k m old : Word} (hold : Within k old) (hm : Within k m) (v : Word) :
    Within k (mergeBits m old v) :=
  (hold.and_right _).or ((within_and m v).mono hm)

theorem Within.setField {k w : Word} (hw : Within k w) {F : Field} (hF : Within k F.mask) (v : Word) :
    Within k (setField w F v) :=
  (hw.and_right _).or ((within_and F.mask _).mono hF)

theorem Within.ite {k u v : Word} {c : Prop} [Decidable c] (hu : Within k u) (hv : Within k v) :
    Within k (if c then u else v) := by
  split
  · exact hu
  · exact hv

theorem SameOutside.refl (k v : Word) : SameOutside k v v := rfl

theorem SameOutside.symm {k u v : Word} (h : SameOutside k u v) : SameOutside k v u := Eq.symm h

theorem SameOutside.trans {k u v w : Word} (h₁ : SameOutside k u v) (h₂ : SameOutside k v w) : SameOutside k u w :=
  Eq.trans h₁ h₂

theorem SameOutside.within {j k u v : Word} (h : SameOutside j u v) (hv : Within k v) (hj : Within k j) :
    Within k u :=
  within_iff.2 fun n hn => by
    have hlt : n < 64 := BitVec.lt_of_getLsbD hn
    cases hk : j.getLsbD n
    · exact within_iff.1 hv n (sameOutside_iff.1 h n hlt hk ▸ hn)
    · exact within_iff.1 hj n hk

theorem sameOutside_and_not (k v : Word) : SameOutside k (v &&& ~~~k) v := by
  rw [SameOutside, BitVec.and_assoc, BitVec.and_self]

theorem sameOutside_mergeBits {k m : Word} (hm : Within k m) (old v : Word) : SameOutside k (mergeBits m old v) old :=
  sameOutside_iff.2 fun n _ hk => by
    rw [getLsbD_mergeBits, if_neg]
    intro h
    rw [within_iff.1 hm n h] at hk
    cases hk

theorem sameOutside_setField {k : Word} {F : Field} (hF : Within k F.mask) (w v : Word) :
    SameOutside k (setField w F v) w :=
  sameOutside_mergeBits hF w (v <<< F.lo)

theorem SameOutside.setField {k u v : Word} (h : SameOutside k u v) (F : Field) (c : Word) :
    SameOutside k (setField u F c) (setField v F c) :=
  sameOutside_iff.2 fun n hn hk => by
    rw [getLsbD_setField, getLsbD_setField, sameOutside_iff.1 h n hn hk]

/-- A field outside the mask reads the same. -/
theorem SameOutside.getField_eq {k u v : Word} (h : SameOutside k u v) {F : Field} (hF : F.mask &&& k = 0) :
    getField u F = getField v F := by
  apply word_ext
  intro n _
  rw [getLsbD_getField, getLsbD_getField]
  by_cases hn : n < F.width
  · by_cases hlt : F.lo + n < 64
    · have hk : k.getLsbD (F.lo + n) = false := by
        have := congrArg (fun w : Word => w.getLsbD (F.lo + n)) hF
        simpa [Field.getLsbD_mask, hn, hlt] using this
      rw [sameOutside_iff.1 h _ hlt hk]
    · rw [BitVec.getLsbD_of_ge u _ (by omega), BitVec.getLsbD_of_ge v _ (by omega)]
  · simp [hn]

/-- 40_codec_capabilities.md R204: a field reads what was set, as far as it has bits. -/
theorem getField_setField_same {F : Field} (hF : F.lo + F.width ≤ 64) (w v : Word) :
    getField (setField w F v) F = v &&& lowOnes F.width := by
  apply word_ext
  intro n hn
  rw [getLsbD_getField, getLsbD_setField, BitVec.getLsbD_and, getLsbD_lowOnes]
  by_cases h : n < F.width
  · have : F.lo + n < 64 := by omega
    simp [h, hn, this]
  · simp [h]

/-! ### Values of XLEN bits -/

theorem fits_rv64 (v : Word) : Fits .rv64 v := by
  rw [Fits, show ~~~Xlen.rv64.ones = 0#64 by decide]
  exact BitVec.and_zero

theorem fits_trunc (x : Xlen) (v : Word) : Fits x (x.trunc v) := within_and x.ones v

theorem Fits.and_right {x : Xlen} {v : Word} (h : Fits x v) (u : Word) : Fits x (v &&& u) := Within.and_right h u

/-- A value of 32 bits fits at either XLEN. -/
theorem fits_of_within_low {v : Word} (h : Within 0xFFFFFFFF v) (x : Xlen) : Fits x v :=
  Within.mono h (by cases x <;> decide)

theorem within_low_setWidth {w : Nat} (hw : w ≤ 32) (v : BitVec w) : Within (0xFFFFFFFF : Word) (v.setWidth 64) :=
  within_iff.2 fun n hn => by
    rw [BitVec.getLsbD_setWidth, Bool.and_eq_true] at hn
    have := BitVec.lt_of_getLsbD hn.2
    exact (Xlen.getLsbD_ones .rv32 n).trans (decide_eq_true (show n < 32 by omega))

theorem fits_setWidth {w : Nat} (hw : w ≤ 32) (v : BitVec w) (x : Xlen) : Fits x (v.setWidth 64) :=
  fits_of_within_low (within_low_setWidth hw v) x

theorem fits_zero (x : Xlen) : Fits x 0 := fits_setWidth (w := 0) (by decide) 0 x

theorem fits_highHalf (x : Xlen) (v : Word) : Fits x (highHalf v) :=
  fits_of_within_low (within_iff.2 fun n hn => by
    rw [getLsbD_highHalf] at hn
    have := BitVec.lt_of_getLsbD hn
    exact (Xlen.getLsbD_ones .rv32 n).trans (decide_eq_true (show n < 32 by omega))) x

theorem fits_counterLow (x : Xlen) (c : Word) : Fits x (counterLow x c) := by
  cases x
  · exact fits_trunc .rv32 c
  · exact fits_rv64 c

theorem fits_nextInstr (s : State) : Fits s.params.xlen (nextInstr s) := fits_trunc _ _

theorem fits_tvecAddr {x : Xlen} {tvec cause a : Word} (h : Fits x tvec) (ha : tvecAddr x tvec cause = some a) :
    Fits x a := by
  unfold tvecAddr at ha
  dsimp only at ha
  split at ha
  · cases ha; exact h.and_right _
  · split at ha
    · split at ha <;> cases ha
      · exact h.and_right _
      · exact fits_trunc _ _
    · cases ha

theorem fits_causeValue {x : Xlen} {code : Word} (h : Fits x code) (interrupt : Bool) :
    Fits x (causeValue x interrupt code) := by
  unfold causeValue
  split
  · exact Within.or h (by cases x <;> decide)
  · exact h

theorem fits_exceptionCode (c : ExceptionCause) (x : Xlen) : Fits x c.code :=
  fits_of_within_low (by cases c <;> decide) x

end Sys2Proof.Machine

namespace Sys2Proof.Machine

open Sys2Proof.Claims

/-! ### mstatus -/

theorem isDirty_eq_dirty (m : Word) : isDirty m = dirty m := isDirty_eq m

/-- FS and XS lie below SD, so deriving SD leaves them. -/
theorem isDirty_withSd (x : Xlen) (m : Word) : isDirty (withSd x m) = isDirty m := by
  have below (n : Nat) (hn : n < 31) : (withSd x m).getLsbD n = m.getLsbD n := by
    rw [getLsbD_withSd, if_neg (by cases x <;> simp only [Xlen.bits] <;> omega)]
  rw [isDirty_eq, isDirty_eq, below 13 (by decide), below 14 (by decide), below 15 (by decide), below 16 (by decide)]

/-- R39: what every write of mstatus ends with derives SD. -/
theorem sd_withSd (x : Xlen) (m : Word) : (withSd x m).getLsbD (x.bits - 1) = dirty (withSd x m) := by
  rw [getLsbD_withSd, if_pos rfl, ← isDirty_eq_dirty, isDirty_withSd]

/-- mstatus is legal but for SD: what a write must leave before it derives SD. -/
structure StatusFieldsLegal (x : Xlen) (m : Word) : Prop where
  reserved : Within (mstatusDef x) m
  sxl : getSxl x m = x.arch.code
  uxl : getUxl x m = x.arch.code

theorem MstatusLegal.fields {x : Xlen} {m : Word} (h : MstatusLegal x m) : StatusFieldsLegal x m :=
  ⟨h.reserved, h.sxl, h.uxl⟩

/-- The mstatus fields that stand at the same bits at either XLEN: all but SD, SXL and UXL (10_state.md R37). -/
def commonStatusMask : Word := 0x007FF9BB

/-- A write within defined fields other than SXL and UXL leaves the reserved bits and those two. -/
theorem StatusFieldsLegal.of_sameOutside {x : Xlen} {k m m' : Word} (h : StatusFieldsLegal x m)
    (hm : SameOutside k m' m) (hdef : Within (mstatusDef x) k) (hsxl : Mstatus.sxl.mask &&& k = 0)
    (huxl : Mstatus.uxl.mask &&& k = 0) : StatusFieldsLegal x m' where
  reserved := hm.within h.reserved hdef
  sxl := by
    refine Eq.trans ?_ h.sxl
    cases x
    · rfl
    · exact hm.getField_eq hsxl
  uxl := by
    refine Eq.trans ?_ h.uxl
    cases x
    · rfl
    · exact hm.getField_eq huxl

theorem StatusFieldsLegal.of_sameOutside_common {x : Xlen} {m m' : Word} (h : StatusFieldsLegal x m)
    (hm : SameOutside commonStatusMask m' m) : StatusFieldsLegal x m' :=
  h.of_sameOutside hm (by cases x <;> decide) (by decide) (by decide)

theorem StatusFieldsLegal.setField {x : Xlen} {m : Word} (h : StatusFieldsLegal x m) {F : Field}
    (hF : Within commonStatusMask F.mask) (v : Word) : StatusFieldsLegal x (setField m F v) :=
  h.of_sameOutside_common (sameOutside_setField hF m v)

theorem StatusFieldsLegal.ite {x : Xlen} {m m' : Word} {c : Prop} [Decidable c] (h : StatusFieldsLegal x m)
    (h' : StatusFieldsLegal x m') : StatusFieldsLegal x (if c then m else m') := by
  split
  · exact h
  · exact h'

theorem statusFieldsLegal_rv32 {m : Word} (h : Within (mstatusDef .rv32) m) : StatusFieldsLegal .rv32 m :=
  ⟨h, rfl, rfl⟩

/-- R40: at XLEN=64 SXL and UXL hold RV64 where a write puts it there. -/
theorem statusFieldsLegal_rv64 {m : Word} (h : Within (mstatusDef .rv64) m) :
    StatusFieldsLegal .rv64
      (setField (setField m Mstatus.sxl Architecture.rv64.code) Mstatus.uxl Architecture.rv64.code) where
  reserved := (h.setField (by decide) _).setField (by decide) _
  sxl := by
    have apart : SameOutside Mstatus.uxl.mask _ _ := sameOutside_setField (F := Mstatus.uxl) (by decide)
      (setField m Mstatus.sxl Architecture.rv64.code) Architecture.rv64.code
    exact (apart.getField_eq (F := Mstatus.sxl) (by decide)).trans (getField_setField_same (by decide) m _)
  uxl := getField_setField_same (by decide) _ _

/-- R39: deriving SD makes mstatus legal. -/
theorem StatusFieldsLegal.withSd {x : Xlen} {m : Word} (h : StatusFieldsLegal x m) : MstatusLegal x (withSd x m) := by
  have hfields : StatusFieldsLegal x (Machine.withSd x m) :=
    h.of_sameOutside (k := (Mstatus.sd x).mask) (sameOutside_setField (by cases x <;> decide) m _)
      (by cases x <;> decide) (by cases x <;> decide) (by cases x <;> decide)
  refine ⟨?_, hfields.reserved, hfields.sxl, hfields.uxl⟩
  rw [isDirty_withSd, Machine.withSd, getField_setField_same (by cases x <;> decide)]
  cases isDirty m <;> cases x <;> decide

section Writes

variable {x : Xlen} {m : Word} (h : MstatusLegal x m)

include h

/-- The shape of every trap and return: three of the common fields are set and SD is derived. -/
theorem MstatusLegal.setThree {F G H : Field} (hF : Within commonStatusMask F.mask)
    (hG : Within commonStatusMask G.mask) (hH : Within commonStatusMask H.mask) (u v w : Word) :
    MstatusLegal x (withSd x (setField (setField (setField m F u) G v) H w)) :=
  (((h.fields.setField hF u).setField hG v).setField hH w).withSd

theorem MstatusLegal.machineTrap (p : Privilege) : MstatusLegal x (machineTrapStatus x p m) :=
  h.setThree (by decide) (by decide) (by decide) _ _ _

theorem MstatusLegal.supervisorTrap (p : Privilege) : MstatusLegal x (supervisorTrapStatus x p m) :=
  h.setThree (by decide) (by decide) (by decide) _ _ _

theorem MstatusLegal.mret (userExists : Bool) : MstatusLegal x (mretStatus x userExists m) :=
  h.setThree (by decide) (by decide) (by decide) _ _ _

theorem MstatusLegal.sret : MstatusLegal x (sretStatus x m) :=
  h.setThree (by decide) (by decide) (by decide) _ _ _

theorem MstatusLegal.liftSstatus (v : Word) : MstatusLegal x (liftSstatus x m v) :=
  (h.fields.of_sameOutside_common (sameOutside_mergeBits (by decide) m v)).withSd

theorem MstatusLegal.rawMerge (mask v : Word) : MstatusLegal x (withSd x (rawMerge x .mstatus m mask v)) :=
  (h.fields.of_sameOutside_common (sameOutside_mergeBits (within_and commonStatusMask mask) m v)).withSd

/-- `legalize_mstatus` (41_machine_csrs.md R235). -/
theorem MstatusLegal.legalize (hasN hasU : Bool) (v : Word) : MstatusLegal x (legalizeMstatus x hasN hasU m v) := by
  have masked : Within (mstatusDef x) (Machine.setField (v &&& mstatusDef x) Mstatus.xs ExtStatus.off.code) :=
    (within_and _ v).setField (by cases x <;> decide) _
  have gated {m' : Word} (hm : StatusFieldsLegal x m') :
      MstatusLegal x (Machine.withSd x
        (let m₁ := if hasN then m' else setField (setField m' Mstatus.upie 0) Mstatus.uie 0
         if hasU then m₁ else setField m₁ Mstatus.mprv 0)) := by
    have hN := hm.ite (c := hasN = true) ((hm.setField (F := Mstatus.upie) (by decide) 0).setField (F := Mstatus.uie)
      (by decide) 0)
    exact (hN.ite (hN.setField (by decide) 0)).withSd
  cases x
  · exact gated (statusFieldsLegal_rv32 masked)
  · have hsxl : getField m Mstatus.sxl = Architecture.rv64.code := h.sxl
    have huxl : getField m Mstatus.uxl = Architecture.rv64.code := h.uxl
    simp only [legalizeMstatus, hsxl, huxl]
    exact gated (statusFieldsLegal_rv64 masked)

end Writes

/-- mstatus after reset (10_state.md R41). -/
theorem mstatusLegal_reset (q : Params) (d : Word) : MstatusLegal q.xlen (resetMstatus q d) := by
  have drawn (hasN : Bool) : Within (mstatusDef q.xlen) (d &&& drawnMstatus hasN) :=
    (within_and _ d).mono (by cases q.xlen <;> cases hasN <;> decide)
  unfold resetMstatus
  cases hx : q.xlen <;> rw [hx] at drawn
  · exact (statusFieldsLegal_rv32 (drawn _)).withSd
  · exact (statusFieldsLegal_rv64 (drawn _)).withSd

/-! ### misa -/

/-- The letters a write of misa can change: C, D and F (10_state.md R35). -/
def misaWritable : Word := 0x2C

/-- MXL and the fixed letters (10_state.md R35). -/
def fixedMisa (q : Params) : Word :=
  setField (q.misaFixed.setWidth 64 &&& ~~~misaWritable) (Misa.mxl q.xlen) q.xlen.arch.code

theorem within_mxl_mask (x : Xlen) : Within (~~~misaWritable) (Misa.mxl x).mask := by
  cases x <;> decide

theorem misaLegal_iff (q : Params) (m : Word) : MisaLegal q m ↔ SameOutside misaWritable m (fixedMisa q) := by
  have hfixed : Within (~~~misaWritable) (fixedMisa q) :=
    (within_and _ _).setField (within_mxl_mask q.xlen) _
  rw [SameOutside, hfixed.and_eq]
  rfl

theorem MisaLegal.of_sameOutside {q : Params} {m m' : Word} (h : MisaLegal q m) (hm : SameOutside misaWritable m' m) :
    MisaLegal q m' :=
  (misaLegal_iff q m').2 (hm.trans ((misaLegal_iff q m).1 h))

theorem MisaLegal.fits {q : Params} {m : Word} (h : MisaLegal q m) : Fits q.xlen m := by
  have hfixed : Fits q.xlen (fixedMisa q) :=
    Within.setField (Fits.and_right (fits_setWidth (by decide) _ _) _) (by cases q.xlen <;> decide) _
  exact ((misaLegal_iff q m).1 h).within hfixed (by cases q.xlen <;> decide)

theorem sameOutside_setLetter {k : Nat} (hk : Within misaWritable (Field.bit k).mask) (m c : Word) :
    SameOutside misaWritable (setField m (.bit k) c) m :=
  sameOutside_setField hk m c

/-- `legalize_misa` changes no letter but C, D and F (41_machine_csrs.md R233). -/
theorem sameOutside_legalizeMisa (caps : Caps) (nextPc old v : Word) :
    SameOutside misaWritable (legalizeMisa caps nextPc old v) old := by
  have afterC (b : Bool) : SameOutside misaWritable
      (if b then setField old (.bit Misa.c) (getField v (.bit Misa.c)) else old) old := by
    cases b
    · exact .refl _ _
    · exact sameOutside_setLetter (by decide) _ _
  unfold legalizeMisa
  dsimp only
  split
  · split
    · exact ((sameOutside_setLetter (by decide) _ _).trans (sameOutside_setLetter (by decide) _ _)).trans (afterC _)
    · exact afterC _
  · exact .refl _ _

/-- misa after reset (10_state.md R36). -/
theorem misaLegal_reset (q : Params) (caps : Caps) : MisaLegal q (resetMisa q caps) := by
  have letters : SameOutside misaWritable _ (q.misaFixed.setWidth 64 &&& ~~~misaWritable) :=
    ((sameOutside_setLetter (k := Misa.f) (by decide) _ (flagWord caps.fdextBoot)).trans
      ((sameOutside_setLetter (k := Misa.d) (by decide) _ (flagWord caps.fdextBoot)).trans
        (sameOutside_setLetter (k := Misa.c) (by decide) _ (flagWord caps.rvcBoot)))).trans
      (sameOutside_and_not misaWritable _).symm
  exact (misaLegal_iff _ _).2 (letters.setField _ _)

end Sys2Proof.Machine

namespace Sys2Proof.Machine

open Sys2Proof.Claims

/-! ### Legality through an update of the state -/

/-- `t` comes from `s` by an update that keeps it legal: each register of `t` is legal where `s` is. A register the
update leaves as it was needs no proof. -/
structure LegalUpdate (s t : State) : Prop where
  params : t.params = s.params := by exact rfl
  mstatus : s.Legal → MstatusLegal t.params.xlen t.mstatus := by exact fun h => h.mstatus
  misa : s.Legal → MisaLegal t.params t.misa := by exact fun h => h.misa
  mip : s.Legal → Within mintDef t.mip := by exact fun h => h.interrupts.mip
  mie : s.Legal → Within mintDef t.mie := by exact fun h => h.interrupts.mie
  mideleg : s.Legal → Within midelegMask t.mideleg := by exact fun h => h.interrupts.mideleg
  medeleg : s.Legal → Within medelegMask t.medeleg := by exact fun h => h.interrupts.medeleg
  mcounteren : s.Legal → Within counterenMask t.mcounteren := by exact fun h => h.counterControl.mcounteren
  scounteren : s.Legal → Within counterenMask t.scounteren := by exact fun h => h.counterControl.scounteren
  mcountinhibit : s.Legal → Within countinhibitMask t.mcountinhibit := by
    exact fun h => h.counterControl.mcountinhibit
  mtvec : s.Legal → Fits t.params.xlen t.mtvec := by exact fun h => h.block.mtvec
  stvec : s.Legal → Fits t.params.xlen t.stvec := by exact fun h => h.block.stvec
  mcause : s.Legal → Fits t.params.xlen t.mcause := by exact fun h => h.block.mcause
  scause : s.Legal → Fits t.params.xlen t.scause := by exact fun h => h.block.scause
  mepc : s.Legal → Fits t.params.xlen t.mepc := by exact fun h => h.block.mepc
  sepc : s.Legal → Fits t.params.xlen t.sepc := by exact fun h => h.block.sepc
  mtval : s.Legal → Fits t.params.xlen t.mtval := by exact fun h => h.block.mtval
  stval : s.Legal → Fits t.params.xlen t.stval := by exact fun h => h.block.stval
  mscratch : s.Legal → Fits t.params.xlen t.mscratch := by exact fun h => h.block.mscratch
  sscratch : s.Legal → Fits t.params.xlen t.sscratch := by exact fun h => h.block.sscratch
  satp : s.Legal → Fits t.params.xlen t.satp := by exact fun h => h.block.satp
  tselect : s.Legal → Fits t.params.xlen t.tselect := by exact fun h => h.block.tselect
  curInst : s.Legal → Fits t.params.xlen t.curInst := by exact fun h => h.block.curInst
  pc : s.Legal → Fits t.params.xlen t.pc := by exact fun h => h.host.pc
  x : s.Legal → ∀ r, Fits t.params.xlen (readX t r) := by exact fun h => h.host.x

theorem LegalUpdate.legal {s t : State} (u : LegalUpdate s t) (h : s.Legal) : t.Legal where
  mstatus := u.mstatus h
  misa := u.misa h
  interrupts := ⟨u.mip h, u.mie h, u.mideleg h, u.medeleg h⟩
  counterControl := ⟨u.mcounteren h, u.scounteren h, u.mcountinhibit h⟩
  block := ⟨u.mtvec h, u.stvec h, u.mcause h, u.scause h, u.mepc h, u.sepc h, u.mtval h, u.stval h, u.mscratch h,
    u.sscratch h, u.satp h, u.tselect h, u.curInst h⟩
  host := {
    mvendorid := u.params ▸ h.host.mvendorid
    marchid := u.params ▸ h.host.marchid
    mimpid := u.params ▸ h.host.mimpid
    mhartid := u.params ▸ h.host.mhartid
    pc := u.pc h
    x := u.x h }

/-- A legal state of a hart with parameters `q`. -/
structure State.LegalFor (q : Params) (s : State) : Prop where
  params : s.params = q
  legal : s.Legal

theorem LegalUpdate.legalFor {q : Params} {s t : State} (u : LegalUpdate s t) (h : s.LegalFor q) : t.LegalFor q :=
  ⟨u.params.trans h.params, u.legal h.legal⟩

theorem Answers.legalUpdate {s t : State} (h : Answers s t) : LegalUpdate s t := by
  rw [h.frame]; exact {}

theorem legalUpdate_respond (s : State) (d : Option Word) : LegalUpdate s (s.respond d) := {}

theorem legalUpdate_fail (s : State) (r : FaultReason) : LegalUpdate s (s.fail r) := {}

theorem legalUpdate_setPc {s : State} {a : Word} (ha : Fits s.params.xlen a) : LegalUpdate s (s.setPc a) :=
  { pc := fun _ => ha }

theorem legalUpdate_writeX {s : State} {v : Word} (hv : Fits s.params.xlen v) (r : BitVec 5) :
    LegalUpdate s (s.writeX r v) := by
  have hx (h : s.Legal) (k : BitVec 5) : Fits s.params.xlen (readX (s.writeX r v) k) := by
    rw [readX_writeX]
    split
    · exact hv
    · exact h.host.x k
  rw [writeX_eq_regsAfter] at hx ⊢
  exact { x := hx }

theorem legalUpdate_load (s : State) (p : Inputs) (rest : List Request) : LegalUpdate s (s.load p rest) := {}

theorem legalUpdate_noteInstr (s : State) (word : BitVec 32) : LegalUpdate s (s.noteInstr word) :=
  { curInst := fun h => by
      rw [State.noteInstr_curInst]
      split
      · exact h.block.curInst
      · exact fits_setWidth (by decide) word _ }

/-! ### CSR reads and writes -/

theorem fits_readCsr {s : State} (h : s.Legal) (c : Csr) : Fits s.params.xlen (readCsr c s) := by
  obtain ⟨hstatus, hmisa, hint, hcount, hblock, hhost⟩ := h
  have hlow {k v : Word} (hv : Within k v) (hk : Within 0xFFFFFFFF k) : Fits s.params.xlen v :=
    fits_of_within_low (hv.mono hk) _
  have hmstatus : Fits s.params.xlen s.mstatus :=
    Within.mono hstatus.reserved (by cases s.params.xlen <;> decide)
  cases c
  case misa => exact hmisa.fits
  case mstatus => exact hmstatus
  case mip => exact hlow hint.mip (by decide)
  case mie => exact hlow hint.mie (by decide)
  case mideleg => exact hlow hint.mideleg (by decide)
  case medeleg => exact hlow hint.medeleg (by decide)
  case mtvec => exact hblock.mtvec
  case mcounteren => exact fits_setWidth (by decide) _ _
  case mcountinhibit => exact fits_setWidth (by decide) _ _
  case mscratch => exact hblock.mscratch
  case mepc => exact hblock.mepc.and_right _
  case mcause => exact hblock.mcause
  case mtval => exact hblock.mtval
  case mvendorid => exact hhost.mvendorid
  case marchid => exact hhost.marchid
  case mimpid => exact hhost.mimpid
  case mhartid => exact hhost.mhartid
  case tselect => exact hblock.tselect
  case mcycle => exact fits_counterLow _ _
  case minstret => exact fits_counterLow _ _
  case mcycleh => exact fits_highHalf _ _
  case minstreth => exact fits_highHalf _ _
  case stvec => exact hblock.stvec
  case scounteren => exact fits_setWidth (by decide) _ _
  case sscratch => exact hblock.sscratch
  case sepc => exact hblock.sepc.and_right _
  case scause => exact hblock.scause
  case stval => exact hblock.stval
  case satp => exact hblock.satp
  case sstatus => exact hmstatus.and_right _
  case sip => exact hlow (Within.and_right (Within.and_right hint.mip _) _) (by decide)
  case sie => exact hlow (Within.and_right (Within.and_right hint.mie _) _) (by decide)
  case sideleg => exact hlow (Within.and_right hint.mideleg _) (by decide)
  case sedeleg => exact hlow (Within.and_right hint.medeleg _) (by decide)

theorem fits_data (p : Inputs) (x : Xlen) : Fits x (p.data x) := fits_trunc x p.wdata

theorem Fits.mergeBits {x : Xlen} {old v : Word} (hold : Fits x old) (hv : Fits x v) (m : Word) :
    Fits x (mergeBits m old v) :=
  Within.or (hold.and_right _) (hv.and_right _)

/-- `legalize_tvec` (41_machine_csrs.md R245). -/
theorem Fits.legalizeTvec {x : Xlen} {old v : Word} (hold : Fits x old) (hv : Fits x v) : Fits x (legalizeTvec old v) :=
  Within.ite hv (hv.mergeBits hold _)

/-- `legalize_xepc` (41_machine_csrs.md R253). -/
theorem Fits.legalizeXepc {x : Xlen} {v : Word} (hv : Fits x v) (hasC : Bool) (caps : Caps) :
    Fits x (legalizeXepc hasC caps v) :=
  Within.ite (hv.and_right _) (hv.and_right _)

theorem within_mipWritable (userInts : Bool) : Within mintDef (mipWritable userInts) := by cases userInts <;> decide

theorem within_mieWritable (userInts : Bool) : Within mintDef (mieWritable userInts) := by cases userInts <;> decide

/-- A write of sip reaches no reserved bit of mip (42_views.md R304). -/
theorem within_sipWritable (userInts : Bool) (mideleg : Word) : Within mintDef (sipWritable userInts mideleg) :=
  Within.ite (Within.or (Within.and_right (by decide) _) (Within.and_right (by decide) _))
    (Within.and_right (by decide) _)

/-- A write of sie reaches no reserved bit of mie (42_views.md R306). -/
theorem within_sieWritable (userInts : Bool) (mideleg : Word) : Within mintDef (sieWritable userInts mideleg) :=
  Within.ite (Within.or (Within.and_right (by decide) _) (Within.and_right (by decide) _))
    (Within.and_right (by decide) _)

theorem within_sidelegWritable (userInts : Bool) (mideleg : Word) :
    Within midelegMask (sidelegWritable userInts mideleg) :=
  Within.and_right (Within.ite (by decide) (by decide)) _

/-- A CSR write keeps the state legal: each register's legalizer leaves it so (41_machine_csrs.md R231). -/
theorem legalUpdate_writeCsr (c : Csr) (p : Inputs) (s : State) : LegalUpdate s (writeCsr c p s) := by
  have hdata : Fits s.params.xlen (p.data s.params.xlen) := fits_data p _
  cases c
  case misa => exact { misa := fun h => h.misa.of_sameOutside (sameOutside_legalizeMisa _ _ _ _) }
  case mstatus => exact { mstatus := fun h => h.mstatus.legalize _ _ _ }
  case mip => exact { mip := fun h => Within.mergeBits h.interrupts.mip (within_mipWritable _) _ }
  case mie => exact { mie := fun h => Within.mergeBits h.interrupts.mie (within_mieWritable _) _ }
  case mideleg => exact { mideleg := fun _ => within_and _ _ }
  case medeleg => exact { medeleg := fun _ => within_and _ _ }
  case mtvec => exact { mtvec := fun h => h.block.mtvec.legalizeTvec hdata }
  case mcounteren => exact { mcounteren := fun _ => within_and _ _ }
  case mcountinhibit => exact { mcountinhibit := fun _ => within_and _ _ }
  case mscratch => exact { mscratch := fun _ => hdata }
  case mepc => exact { mepc := fun _ => hdata.legalizeXepc _ _ }
  case mcause => exact { mcause := fun _ => hdata }
  case mtval => exact { mtval := fun _ => hdata }
  case tselect => exact { tselect := fun _ => hdata }
  case stvec => exact { stvec := fun h => h.block.stvec.legalizeTvec hdata }
  case scounteren => exact { scounteren := fun _ => within_and _ _ }
  case sscratch => exact { sscratch := fun _ => hdata }
  case sepc => exact { sepc := fun _ => hdata.legalizeXepc _ _ }
  case scause => exact { scause := fun _ => hdata }
  case stval => exact { stval := fun _ => hdata }
  case satp =>
    simp only [writeCsr, writeSatp]
    split
    · rename_i hx
      exact { satp := fun _ => hx ▸ fits_data p .rv32 }
    · rename_i hx
      split
      · exact legalUpdate_fail s _
      · exact { satp := fun _ => hx ▸ fits_rv64 _ }
  case sstatus => exact { mstatus := fun h => h.mstatus.liftSstatus _ }
  case sip => exact { mip := fun h => Within.mergeBits h.interrupts.mip (within_sipWritable _ _) _ }
  case sie => exact { mie := fun h => Within.mergeBits h.interrupts.mie (within_sieWritable _ _) _ }
  case sideleg => exact { mideleg := fun h => Within.mergeBits h.interrupts.mideleg (within_sidelegWritable _ _) _ }
  case sedeleg =>
    exact { medeleg := fun h => Within.mergeBits h.interrupts.medeleg (Within.and_right (by decide) _) _ }
  all_goals exact {}

/-! ### Raw and internal writes -/

theorem Within.rawMerge {k old : Word} (hold : Within k old) {c : Csr} {x : Xlen} (hc : rawMask x c = k)
    (m d : Word) : Within k (rawMerge x c old m d) :=
  hold.mergeBits (hc ▸ within_and (rawMask x c) m) d

/-- A 32-bit register after a raw write within the bits it has. -/
theorem within_setWidth_rawMerge {k old : BitVec 32} (hold : Within k old) {c : Csr} {x : Xlen}
    (hc : rawMask x c = k.setWidth 64) (m d : Word) :
    Within k ((rawMerge x c (old.setWidth 64) m d).setWidth 32) := by
  have merged := ((hold.setWidth 64).rawMerge hc m d).setWidth 32
  rwa [BitVec.setWidth_setWidth_of_le k (by decide), BitVec.setWidth_eq] at merged

/-- A raw write keeps the state legal: its masks hold no reserved and no always-0 bit (45_host_ports.md R401). -/
theorem legalUpdate_rawCommit (c : Csr) (m d : Word) (s : State) : LegalUpdate s (rawCommit c m d s) := by
  cases c
  case misa =>
    exact { misa := fun h => h.misa.of_sameOutside (sameOutside_mergeBits ((within_and 0 m).mono (by decide)) _ _) }
  case mstatus => exact { mstatus := fun h => h.mstatus.rawMerge m d }
  case mip => exact { mip := fun h => Within.rawMerge h.interrupts.mip rfl m d }
  case mie => exact { mie := fun h => Within.rawMerge h.interrupts.mie rfl m d }
  case mideleg => exact { mideleg := fun h => Within.rawMerge h.interrupts.mideleg rfl m d }
  case medeleg => exact { medeleg := fun h => Within.rawMerge h.interrupts.medeleg rfl m d }
  case mcounteren => exact { mcounteren := fun h => within_setWidth_rawMerge h.counterControl.mcounteren rfl m d }
  case scounteren => exact { scounteren := fun h => within_setWidth_rawMerge h.counterControl.scounteren rfl m d }
  case mcountinhibit =>
    exact { mcountinhibit := fun h => within_setWidth_rawMerge h.counterControl.mcountinhibit rfl m d }
  case mtvec => exact { mtvec := fun h => Within.rawMerge h.block.mtvec rfl m d }
  case stvec => exact { stvec := fun h => Within.rawMerge h.block.stvec rfl m d }
  case mcause => exact { mcause := fun h => Within.rawMerge h.block.mcause rfl m d }
  case scause => exact { scause := fun h => Within.rawMerge h.block.scause rfl m d }
  case mepc => exact { mepc := fun h => Within.rawMerge h.block.mepc rfl m d }
  case sepc => exact { sepc := fun h => Within.rawMerge h.block.sepc rfl m d }
  case mtval => exact { mtval := fun h => Within.rawMerge h.block.mtval rfl m d }
  case stval => exact { stval := fun h => Within.rawMerge h.block.stval rfl m d }
  case mscratch => exact { mscratch := fun h => Within.rawMerge h.block.mscratch rfl m d }
  case sscratch => exact { sscratch := fun h => Within.rawMerge h.block.sscratch rfl m d }
  case satp => exact { satp := fun h => Within.rawMerge h.block.satp rfl m d }
  case tselect => exact { tselect := fun h => Within.rawMerge h.block.tselect rfl m d }
  all_goals exact {}

theorem legalUpdate_intWrite (r : IntReg) (p : Inputs) (s : State) : LegalUpdate s (intWrite r p s) := by
  rcases intWrite_cases r p s with h | ⟨-, q, -, h⟩ | ⟨-, h⟩ | ⟨-, h⟩ | ⟨-, h⟩ | ⟨-, h⟩ | ⟨-, h⟩
  · exact h.legalUpdate
  all_goals rw [h]
  case inr.inr.inl => exact { curInst := fun _ => fits_trunc _ _ }
  all_goals exact {}

end Sys2Proof.Machine

namespace Sys2Proof.Machine

open Sys2Proof.Claims

/-! ### What an Ok says: the command ran, and took its one branch that answers Ok -/

theorem State.running_of_ok {f : State → State} {s : State} {d : Option Word} (h : (s.command f).out = .ok d) :
    s.faulted = false := by
  rcases s.command_cases f with ⟨-, hs⟩ | ⟨hf, -⟩
  · rw [hs] at h; cases h
  · exact hf

theorem csrRead_of_ok {c : Csr} {s : State} {d : Option Word} (h : (csrRead c s).out = .ok d) :
    d = some (readCsr c s) := by
  rw [csrRead, State.command_running (State.running_of_ok h)] at h
  split at h <;> cases h
  rfl

/-- TRAP_ENTER answers Ok with the trap-vector address of the level it enters (45_host_ports.md R431, R432). -/
theorem trapEnter_of_ok {interrupt : Bool} {code tval epc : Word} {s : State} {d : Option Word}
    (h : (trapEnter interrupt code tval epc s).out = .ok d) :
    ∃ target,
      let cause := causeValue s.params.xlen interrupt code
      (tvecAddr s.params.xlen s.mtvec cause = some target ∧
        trapEnter interrupt code tval epc s = (enterMachine cause tval epc s).respond (some target)) ∨
      (tvecAddr s.params.xlen s.stvec cause = some target ∧
        trapEnter interrupt code tval epc s = (enterSupervisor cause tval epc s).respond (some target)) := by
  have hf := State.running_of_ok h
  rw [trapEnter, State.command_running hf] at h ⊢
  dsimp only at h ⊢
  split at h
  · cases h
  · rename_i hcode
    rw [if_neg hcode]
    split at h
    · cases h
    · rename_i target htarget
      refine ⟨target, ?_⟩
      cases hs : trapToSupervisor interrupt code s <;> rw [hs] at htarget
      · exact .inl ⟨htarget, rfl⟩
      · exact .inr ⟨htarget, rfl⟩

theorem machineReturn_of_ok {s : State} {d : Option Word} (h : (machineReturn s).out = .ok d) :
    ∃ p, machineReturn s =
      { s with mstatus := mretStatus s.params.xlen (haveU s) s.mstatus, curPrivilege := p }.respond
        (some (s.mepc &&& pcAlignmentMask s)) := by
  have hf := State.running_of_ok h
  rw [machineReturn, State.command_running hf] at h ⊢
  split at h
  · cases h
  · rename_i hm
    rw [if_neg hm]
    split at h
    · cases h
    · rename_i p _
      exact ⟨p, rfl⟩

theorem supervisorReturn_of_ok {s : State} {d : Option Word} (h : (supervisorReturn s).out = .ok d) :
    ∃ p, supervisorReturn s =
      { s with mstatus := sretStatus s.params.xlen s.mstatus, curPrivilege := p }.respond
        (some (s.sepc &&& pcAlignmentMask s)) := by
  have hf := State.running_of_ok h
  rw [supervisorReturn, State.command_running hf] at h ⊢
  split at h
  · cases h
  · rename_i hr
    rw [if_neg hr]
    exact ⟨_, rfl⟩

/-! ### SD after a write of mstatus -/

theorem trapEnter_mstatus_of_ok {interrupt : Bool} {code tval epc : Word} {s : State} {d : Option Word}
    (h : (trapEnter interrupt code tval epc s).out = .ok d) :
    ∃ m, (trapEnter interrupt code tval epc s).mstatus = withSd s.params.xlen m := by
  obtain ⟨_, ⟨-, h⟩ | ⟨-, h⟩⟩ := trapEnter_of_ok h <;> rw [h]
  · exact ⟨_, rfl⟩
  · exact ⟨_, rfl⟩

/-- Every command that writes mstatus ends by deriving SD (10_state.md R39). -/
theorem mstatus_eq_withSd {i : Instr} {s t : State} {d : Option Word} (hw : writesMstatus i = true)
    (h : exec i s = .next t) (ht : t.out = .ok d) : ∃ m, t.mstatus = withSd s.params.xlen m := by
  cases i
  case csrWriteMstatus =>
    cases h
    rw [csrWrite_running s.port (State.running_of_ok ht) (c := .mstatus) rfl]
    exact ⟨_, rfl⟩
  case csrWriteSstatus =>
    cases h
    rw [csrWrite_running s.port (State.running_of_ok ht) (c := .sstatus) rfl]
    exact ⟨_, rfl⟩
  case rawWrite addr =>
    obtain rfl : addr = Csr.mstatus.addr := of_decide_eq_true hw
    cases h
    rw [rawWrite_running s.port (State.running_of_ok ht) (c := .mstatus) rfl rfl rfl]
    exact ⟨_, rfl⟩
  case trapEnterException => cases h; exact trapEnter_mstatus_of_ok ht
  case trapEnterInterrupt => cases h; exact trapEnter_mstatus_of_ok ht
  case xretMret =>
    cases h
    obtain ⟨p, h⟩ := machineReturn_of_ok ht
    rw [h]
    exact ⟨_, rfl⟩
  case xretSret =>
    cases h
    obtain ⟨p, h⟩ := supervisorReturn_of_ok ht
    rw [h]
    exact ⟨_, rfl⟩
  case reset =>
    cases h
    rw [resetCommand, State.command_running (State.running_of_ok ht)]
    exact ⟨_, rfl⟩
  all_goals cases hw

/-- Settles O59: the value each such command leaves is `withSd` of some word. -/
theorem dirtyBitIsDerived : Obligations.DirtyBitIsDerived := by
  intro i s t d hw h ht
  obtain ⟨m, hm⟩ := mstatus_eq_withSd hw h ht
  rw [hm, sd_withSd]

/-! ### Traps, returns, retirement and reset keep the state legal -/

theorem legalUpdate_trapEnter {s : State} {code tval epc : Word} (hcode : Fits s.params.xlen code)
    (htval : Fits s.params.xlen tval) (hepc : Fits s.params.xlen epc) (interrupt : Bool) :
    LegalUpdate s (trapEnter interrupt code tval epc s) := by
  have hcause := fits_causeValue hcode interrupt
  rcases trapEnter_cases interrupt code tval epc s with h | h | ⟨-, _, -, h⟩ | ⟨-, _, -, h⟩
  · exact h.legalUpdate
  all_goals rw [h]
  case inr.inl => exact legalUpdate_fail s _
  case inr.inr.inl =>
    exact { mcause := fun _ => hcause, mtval := fun _ => htval, mepc := fun _ => hepc,
            mstatus := fun h => h.mstatus.machineTrap _ }
  case inr.inr.inr =>
    exact { scause := fun _ => hcause, stval := fun _ => htval, sepc := fun _ => hepc,
            mstatus := fun h => h.mstatus.supervisorTrap _ }

theorem legalUpdate_machineReturn (s : State) : LegalUpdate s (machineReturn s) := by
  rcases machineReturn_cases s with h | h | ⟨p, -, -, h⟩
  · exact h.legalUpdate
  · rw [h]; exact legalUpdate_fail s _
  · rw [h]; exact { mstatus := fun h => h.mstatus.mret _ }

theorem legalUpdate_supervisorReturn (s : State) : LegalUpdate s (supervisorReturn s) := by
  rcases supervisorReturn_cases s with h | ⟨-, h⟩
  · exact h.legalUpdate
  · rw [h]; exact { mstatus := fun h => h.mstatus.sret }

theorem legalUpdate_retireInstruction (s : State) : LegalUpdate s (retireInstruction s) := by
  rcases retireInstruction_cases s with h | ⟨-, h⟩
  · exact h.legalUpdate
  · rw [h]; exact {}

theorem fits_drawSatp (q : Params) (d : Word) : Fits q.xlen (drawSatp q d) := by
  unfold drawSatp
  split
  · rename_i hx; exact hx ▸ fits_trunc .rv32 d
  · rename_i hx; exact hx ▸ fits_rv64 _

/-- The reset values are legal whatever the block held before and whatever is drawn (70_reset_and_hazards.md R601). -/
theorem resetBlock_legal {s : State} (h : HostFits s) (p : Inputs) : (resetBlock p s).Legal where
  mstatus := mstatusLegal_reset s.params p.draw.mstatus
  misa := misaLegal_reset s.params p.caps
  interrupts := ⟨within_and _ _, within_and _ _, within_and _ _, within_and _ _⟩
  counterControl := ⟨within_and _ _, within_and _ _, within_and _ _⟩
  block := ⟨(fits_trunc _ _).and_right _, (fits_trunc _ _).and_right _, fits_trunc _ _, fits_trunc _ _,
    (fits_trunc _ _).and_right _, (fits_trunc _ _).and_right _, fits_trunc _ _, fits_trunc _ _, fits_trunc _ _,
    fits_trunc _ _, fits_drawSatp _ _, fits_trunc _ _, fits_trunc _ _⟩
  host := ⟨h.mvendorid, h.marchid, h.mimpid, h.mhartid, h.pc, h.x⟩

theorem reset_eq_resetBlock : State.reset = resetBlock Inputs.idle State.reset := by decide

theorem hostFits_reset : HostFits State.reset where
  mvendorid := fits_zero _
  marchid := fits_zero _
  mimpid := fits_zero _
  mhartid := fits_zero _
  pc := fits_rv64 _
  x _ := fits_rv64 _

/-- Settles O57: State.reset is a reset with the default draw. -/
theorem resetIsLegal : Obligations.ResetIsLegal := by
  unfold Obligations.ResetIsLegal
  rw [reset_eq_resetBlock]
  exact resetBlock_legal hostFits_reset Inputs.idle

/-! ### Commands keep the state legal -/

theorem State.LegalFor.resetCommand {q : Params} {s : State} (h : s.LegalFor q) (p : Inputs) :
    (resetCommand p s).LegalFor q := by
  rcases resetCommand_cases p s with ha | ⟨-, hr⟩
  · exact ha.legalUpdate.legalFor h
  · rw [hr]
    exact (legalUpdate_respond _ _).legalFor ⟨h.params, resetBlock_legal h.legal.host p⟩

theorem CommandEffect.legalFor {q : Params} {i : Instr} {s t : State} (he : CommandEffect s i t) (h : s.LegalFor q) :
    t.LegalFor q := by
  have htrap (interrupt : Bool) : LegalUpdate s (trapEnterFromPort interrupt s.port s) :=
    legalUpdate_trapEnter (fits_data _ _) (fits_trunc _ _) (fits_trunc _ _) interrupt
  cases he with
  | answers ha => exact ha.legalUpdate.legalFor h
  | effPrivFails => exact (legalUpdate_fail s _).legalFor h
  | curArchFails => exact (legalUpdate_fail s _).legalFor h
  | csrWrite c => exact (legalUpdate_writeCsr c s.port s).legalFor h
  | rawWrite c => exact (legalUpdate_respond _ _).legalFor ((legalUpdate_rawCommit c _ _ s).legalFor h)
  | intWrite r => exact (legalUpdate_intWrite r s.port s).legalFor h
  | retire => exact (legalUpdate_retireInstruction s).legalFor h
  | trapException => exact (htrap false).legalFor h
  | trapInterrupt => exact (htrap true).legalFor h
  | machineReturn => exact (legalUpdate_machineReturn s).legalFor h
  | supervisorReturn => exact (legalUpdate_supervisorReturn s).legalFor h
  | reset => exact h.resetCommand s.port

/-! ### The host's instructions keep the state legal -/

theorem csrReadAt_answers (addr : BitVec 12) (s : State) : Answers s (csrReadAt addr s) := by
  unfold csrReadAt
  split
  · exact csrRead_answers _ s
  · exact noSuchCsr_answers s

theorem fits_csrReadAt {s : State} (h : s.Legal) {addr : BitVec 12} {d : Option Word}
    (hd : (csrReadAt addr s).out = .ok d) : Fits s.params.xlen (d.getD 0) := by
  unfold csrReadAt at hd
  split at hd
  · rw [csrRead_of_ok hd]
    exact fits_readCsr h _
  · rw [noSuchCsr, State.command_running (State.running_of_ok hd)] at hd
    cases hd

theorem legalUpdate_csrWriteAt (addr : BitVec 12) (p : Inputs) (s : State) : LegalUpdate s (csrWriteAt addr p s) := by
  unfold csrWriteAt
  split
  · rename_i c _
    rcases csrWrite_cases c p s with ha | ⟨-, -, hw⟩
    · exact ha.legalUpdate
    · rw [hw]; exact legalUpdate_writeCsr c p s
  · exact (noSuchCsr_answers s).legalUpdate

theorem mem_interruptPriority_of_highest {pend : Word} {n : Nat} (h : highestInterrupt pend = some n) :
    n ∈ interruptPriority :=
  List.mem_of_find?_eq_some h

theorem mem_interruptPriority_of_due {s : State} {n : Nat} (h : dueInterrupt s = some n) : n ∈ interruptPriority := by
  rw [dueInterrupt, ← apply_ite highestInterrupt] at h
  exact mem_interruptPriority_of_highest h

theorem fits_interruptCode {n : Nat} (h : n ∈ interruptPriority) (x : Xlen) : Fits x (BitVec.ofNat 64 n) :=
  fits_of_within_low (by revert n; decide) x

section LegalFor

variable {q : Params} {s : State} (h : s.LegalFor q)

include h

theorem State.LegalFor.setPc {a : Word} (ha : Fits q.xlen a) : (s.setPc a).LegalFor q :=
  (legalUpdate_setPc (h.params ▸ ha)).legalFor h

theorem State.LegalFor.writeX {v : Word} (hv : Fits q.xlen v) (r : BitVec 5) : (s.writeX r v).LegalFor q :=
  (legalUpdate_writeX (h.params ▸ hv) r).legalFor h

theorem State.LegalFor.finishAt {a : Word} (ha : Fits q.xlen a) : (finishAt a s).LegalFor q :=
  ((legalUpdate_retireInstruction s).legalFor h).setPc ha

theorem State.LegalFor.fits_nextInstr : Fits q.xlen (nextInstr s) := h.params ▸ Machine.fits_nextInstr s

theorem State.LegalFor.hostTrap {code tval : Word} (hcode : Fits q.xlen code) (htval : Fits q.xlen tval)
    (interrupt : Bool) : (hostTrap interrupt code tval s).LegalFor q := by
  obtain ⟨rfl, hs⟩ := h
  have ht : (trapEnter interrupt code tval s.pc s).LegalFor s.params :=
    (legalUpdate_trapEnter hcode htval hs.host.pc interrupt).legalFor ⟨rfl, hs⟩
  rcases hostTrap_cases interrupt code tval s with ⟨target, hout, e⟩ | ⟨-, e⟩ <;> rw [e]
  · refine ht.setPc ?_
    obtain ⟨_, ⟨ha, htaken⟩ | ⟨ha, htaken⟩⟩ := trapEnter_of_ok hout <;> rw [htaken] at hout
    · cases hout; exact fits_tvecAddr hs.block.mtvec ha
    · cases hout; exact fits_tvecAddr hs.block.stvec ha
  · exact ht

theorem State.LegalFor.raiseException (code tval : Word) : (raiseException code tval s).LegalFor q := by
  have hx : q.xlen = s.params.xlen := by rw [h.params]
  exact h.hostTrap (hx ▸ fits_trunc _ _) (hx ▸ fits_trunc _ _) false

theorem State.LegalFor.raiseIllegal (word : BitVec 32) : (raiseIllegal word s).LegalFor q := by
  rw [raiseIllegal_eq_raiseException]
  exact h.raiseException _ _

/-- What follows a command of the host only has to keep the state legal where the command answered Ok. -/
theorem State.LegalFor.onResponse {k : Word → State → State} (word : BitVec 32)
    (hk : ∀ d, s.out = .ok d → (k (d.getD 0) s).LegalFor q) : (onResponse word s k).LegalFor q := by
  cases hout : s.out with
  | ok d => rw [onResponse_ok hout]; exact hk d hout
  | rejected r => rw [onResponse_rejected hout]; exact h.raiseIllegal word
  | fault r => rw [onResponse_fault hout]; exact h

/-- The access check that begins a CSR instruction (45_host_ports.md R445, R446). -/
theorem State.LegalFor.afterAccessCheck {k : State → State} (word : BitVec 32) (w : Bool) (csr : BitVec 12)
    (hk : ∀ u : State, u.LegalFor q → (k u).LegalFor q) :
    (Machine.onResponse word (accessCheck w csr s) fun allowed s =>
      if allowed = 0 then Machine.raiseIllegal word s else k s).LegalFor q := by
  have hu := (accessCheck_answers w csr s).legalUpdate.legalFor h
  refine hu.onResponse word fun d _ => ?_
  split
  · exact hu.raiseIllegal word
  · exact hk _ hu

/-- The read of a CSR instruction: what it hands on has XLEN bits. -/
theorem State.LegalFor.afterRead {k : Word → State → State} (word : BitVec 32) (csr : BitVec 12)
    (hk : ∀ (t : Word) (u : State), Fits q.xlen t → u.LegalFor q → (k t u).LegalFor q) :
    (Machine.onResponse word (csrReadAt csr s) k).LegalFor q := by
  have hu := (csrReadAt_answers csr s).legalUpdate.legalFor h
  exact hu.onResponse word fun d hd => hk _ _ (h.params ▸ fits_csrReadAt h.legal hd) hu

theorem State.LegalFor.csrWriteBack {t : Word} (ht : Fits q.xlen t) (word : BitVec 32) (rd : BitVec 5)
    (csr : BitVec 12) (w : Bool) (v : Word) : (csrWriteBack word rd csr w v t s).LegalFor q := by
  unfold Machine.csrWriteBack
  dsimp only
  split
  · have hu := (legalUpdate_csrWriteAt csr (hostInputs v s) s).legalFor h
    exact hu.onResponse word fun _ _ => (hu.writeX ht rd).finishAt h.fits_nextInstr
  · exact (h.writeX ht rd).finishAt h.fits_nextInstr

theorem State.LegalFor.csrSwap (word : BitVec 32) (rd : BitVec 5) (csr : BitVec 12) (v : Word) :
    (csrSwap word rd csr v s).LegalFor q := by
  refine h.afterAccessCheck word true csr fun u hu => ?_
  split
  · exact hu.csrWriteBack (fits_zero _) word rd csr true v
  · exact hu.afterRead word csr fun t u' ht hu' => hu'.csrWriteBack ht word rd csr true v

theorem State.LegalFor.csrModify (word : BitVec 32) (rd : BitVec 5) (csr : BitVec 12) (w : Bool) (f : Word → Word) :
    (csrModify word rd csr w f s).LegalFor q :=
  h.afterAccessCheck word w csr fun _ hu =>
    hu.afterRead word csr fun t _ ht hu' => hu'.csrWriteBack ht word rd csr w (f t)

theorem State.LegalFor.hostMret (word : BitVec 32) :
    (Machine.onResponse word (machineReturn s) Machine.finishAt).LegalFor q := by
  have hu := (legalUpdate_machineReturn s).legalFor h
  refine hu.onResponse word fun d hd => hu.finishAt ?_
  obtain ⟨p, e⟩ := machineReturn_of_ok hd
  rw [e] at hd
  cases hd
  exact (h.params ▸ h.legal.block.mepc).and_right _

theorem State.LegalFor.hostSret (word : BitVec 32) :
    (Machine.onResponse word (supervisorReturn s) Machine.finishAt).LegalFor q := by
  have hu := (legalUpdate_supervisorReturn s).legalFor h
  refine hu.onResponse word fun d hd => hu.finishAt ?_
  obtain ⟨p, e⟩ := supervisorReturn_of_ok hd
  rw [e] at hd
  cases hd
  exact (h.params ▸ h.legal.block.sepc).and_right _

theorem State.LegalFor.exec {i : Instr} {t : State} (ht : exec i s = .next t) : t.LegalFor q := by
  cases hc : i.channel with
  | command => exact (commandEffect hc ht).legalFor h
  | instruction =>
    cases i
    case csrrw => cases ht; exact h.csrSwap _ _ _ _
    case csrrwi => cases ht; exact h.csrSwap _ _ _ _
    case csrrs => cases ht; exact h.csrModify _ _ _ _ _
    case csrrc => cases ht; exact h.csrModify _ _ _ _ _
    case csrrsi => cases ht; exact h.csrModify _ _ _ _ _
    case csrrci => cases ht; exact h.csrModify _ _ _ _ _
    case mret => cases ht; exact h.hostMret _
    case sret => cases ht; exact h.hostSret _
    case ecall => cases ht; exact h.hostTrap (fits_exceptionCode _ _) (fits_zero _) false
    case ebreak => cases ht; exact h.hostTrap (fits_exceptionCode _ _) (h.params ▸ h.legal.host.pc) false
    case wfi =>
      cases ht
      rcases s.command_cases _ with ⟨hs, e⟩ | ⟨-, e⟩
      · exact (Answers.halted hs e).legalUpdate.legalFor h
      · rw [e]
        split
        · exact h.raiseIllegal _
        · exact h.finishAt h.fits_nextInstr
    all_goals cases hc

theorem State.LegalFor.pollInterrupt : (pollInterrupt s).LegalFor q := by
  rcases s.command_cases _ with ⟨hs, e⟩ | ⟨-, e⟩
  · exact (Answers.halted hs e).legalUpdate.legalFor h
  · rw [Machine.pollInterrupt, e]
    split
    · rename_i n hn
      exact h.hostTrap (fits_interruptCode (mem_interruptPriority_of_due hn) _) (fits_zero _) true
    · exact h

theorem State.LegalFor.outsideInstr (word : BitVec 32) (host : HostResult) : (outsideInstr word host s).LegalFor q := by
  have hx : q.xlen = s.params.xlen := by rw [h.params]
  rcases outsideInstr_cases word host s with ha | ⟨-, ⟨-, -, e⟩ | ⟨rd, v, a, -, e⟩ | ⟨c, v, -, e⟩⟩
  · exact ha.legalUpdate.legalFor h
  · rw [e]; exact h.raiseIllegal word
  · rw [e]; exact (h.writeX (hx ▸ fits_trunc _ _) rd).finishAt (hx ▸ fits_trunc _ _)
  · rw [e]; exact h.raiseException c v

/-! ### The step -/

theorem State.LegalFor.load (p : Inputs) (rest : List Request) : (s.load p rest).LegalFor q :=
  (legalUpdate_load s p rest).legalFor h

theorem State.LegalFor.noteInstr (word : BitVec 32) : (s.noteInstr word).LegalFor q :=
  (legalUpdate_noteInstr s word).legalFor h

theorem State.LegalFor.step {t : State} (ht : step s = .next t) : t.LegalFor q := by
  rcases step_cases ht with ⟨-, e⟩ | ⟨p, rest, i, -, -, e⟩ | ⟨p, rest, -, e⟩ |
    ⟨w, host, p, rest, i, -, -, e⟩ | ⟨w, host, p, rest, -, e⟩ | ⟨p, rest, -, e⟩ | ⟨c, v, p, rest, -, e⟩
  · rw [e]; exact h
  · exact (h.load p rest).exec e
  · rw [e]; exact (State.command_answers (fun s => .reject s _) _).legalUpdate.legalFor (h.load p rest)
  · exact ((h.load p rest).noteInstr w).exec e
  · rw [e]; exact ((h.load p rest).noteInstr w).outsideInstr w host
  · rw [e]; exact (h.load p rest).pollInterrupt
  · rw [e]; exact (h.load p rest).raiseException c v

end LegalFor

/-- Settles O58: each thing a step can do keeps the state legal. -/
theorem stepKeepsLegal : Obligations.StepKeepsLegal := fun s _ h ht =>
  (State.LegalFor.step (q := s.params) ⟨rfl, h⟩ ht).legal

/-! ### The step runs the decoded instruction -/

theorem step_of_instruction {s : State} {word : BitVec 32} {host : HostResult} {p : Inputs} {rest : List Request}
    {i : Instr} (hp : s.pending = .instruction word host p :: rest) (hd : decodeInstruction word = .ok i) :
    step s = exec i (fetched s word p rest) := by
  simp only [step, hp, hd]
  rfl

/-- Settles O5: one equation of the step per channel. -/
theorem stepRunsDecodedInstruction : Obligations.StepRunsDecodedInstruction := fun _ _ _ _ =>
  ⟨step_of_command, fun _ _ => step_of_instruction⟩

end Sys2Proof.Machine

namespace Sys2Proof

/-! ### The decoder reads a word back from its fields -/

/-- A field of n bits holds one of 2 ^ n numbers; `interval_cases` splits on `k`. -/
theorem exists_eq_ofNat {n : Nat} (x : BitVec n) : ∃ k < 2 ^ n, x = BitVec.ofNat n k :=
  ⟨x.toNat, x.isLt, by simp⟩

theorem decodeCommand_cmdWord (op sub : BitVec 4) (addr : BitVec 12) :
    decodeCommand (cmdWord op sub addr) = decodeOp op sub addr := by
  simp [decodeCommand]

theorem csrReadRow_wellFormed (addr : BitVec 12) : (csrReadRow addr).wellFormed = true := by
  cases h : Csr.ofAddr addr with
  | none => simp only [csrReadRow, h, Instr.wellFormed, unassigned, Option.isNone_none]
  | some c => simp only [csrReadRow, h]; cases c <;> rfl

theorem csrWriteRow_wellFormed (addr : BitVec 12) : (csrWriteRow addr).wellFormed = true := by
  cases h : Csr.ofAddr addr with
  | none => simp only [csrWriteRow, h, Instr.wellFormed, unassigned, Option.isNone_none]
  | some c => simp only [csrWriteRow, h]; cases c <;> rfl

/-- The converse of encode_of_decodeOp. The rows with an operand are named; the fields of the others are numbers, which
decodeOp looks up. -/
theorem decodeOp_of_command {i : Instr} (hw : i.wellFormed = true) (hc : i.channel = .command) :
    ∃ op sub addr, encode i = cmdWord op sub addr ∧ decodeOp op sub addr = .ok i := by
  cases i
  case csrReadUnassigned addr => exact ⟨0, 0, addr, rfl, congrArg _ (csrReadRow_unassigned hw)⟩
  case csrWriteUnassigned addr => exact ⟨1, 0, addr, rfl, congrArg _ (csrWriteRow_unassigned hw)⟩
  case rawRead addr => exact ⟨2, 0, addr, rfl, rfl⟩
  case rawWrite addr => exact ⟨3, 0, addr, rfl, rfl⟩
  case accessCheckRead addr => exact ⟨0xC, 0, addr, rfl, rfl⟩
  case accessCheckWrite addr => exact ⟨0xC, 1, addr, rfl, rfl⟩
  case csrrw | csrrs | csrrc | csrrwi | csrrsi | csrrci | mret | sret | ecall | ebreak | wfi => cases hc
  all_goals exact ⟨_, _, _, rfl, rfl⟩

/-- The CSR instruction a funct3 names (45_host_ports.md R445 to R450). -/
def csrInstrRow (funct3 : BitVec 3) (rd : BitVec 5) (csr : BitVec 12) (rs1 : BitVec 5) : Option Instr :=
  match funct3.toNat with
  | 0b001 => some (.csrrw rd csr rs1)
  | 0b010 => some (.csrrs rd csr rs1)
  | 0b011 => some (.csrrc rd csr rs1)
  | 0b101 => some (.csrrwi rd csr rs1)
  | 0b110 => some (.csrrsi rd csr rs1)
  | 0b111 => some (.csrrci rd csr rs1)
  | _ => none

theorem decodeInstruction_eq (w : BitVec 32) :
    decodeInstruction w =
      if w.extractLsb' 0 7 ≠ systemOpcode then .error .notInTable
      else
        (csrInstrRow (w.extractLsb' 12 3) (w.extractLsb' 7 5) (w.extractLsb' 20 12) (w.extractLsb' 15 5)).elim
          (privilegedRow w) .ok := by
  refine if_congr Iff.rfl rfl ?_
  generalize w.extractLsb' 12 3 = f
  obtain ⟨k, hk, rfl⟩ := exists_eq_ofNat f
  interval_cases k <;> rfl

theorem decodeInstruction_systemWord {f : BitVec 3} {rd rs1 : BitVec 5} {csr : BitVec 12} {i : Instr}
    (h : csrInstrRow f rd csr rs1 = some i) : decodeInstruction (systemWord csr rs1 f rd) = .ok i := by
  rw [decodeInstruction_eq, opcode_systemWord, funct3_systemWord, rd_systemWord, hi_systemWord, rs1_systemWord, h]
  rfl

theorem decodeInstruction_encode {i : Instr} (hc : i.channel = .instruction) :
    decodeInstruction (encode i) = .ok i := by
  cases i
  case csrrw | csrrs | csrrc | csrrwi | csrrsi | csrrci => exact decodeInstruction_systemWord rfl
  case mret | sret | ecall | ebreak | wfi => rfl
  all_goals cases hc

/-- Settles O1: on either channel the fields of the word are the fields it was put together from. -/
theorem decodeInvertsEncode : Obligations.DecodeInvertsEncode := by
  intro i hw
  cases hc : i.channel with
  | command =>
    obtain ⟨op, sub, addr, henc, hdec⟩ := decodeOp_of_command hw hc
    rw [henc, decodeOn, decodeCommand_cmdWord, hdec]
  | instruction => exact decodeInstruction_encode hc

/-! ### A word that decodes is the word of what it decodes to -/

theorem wellFormed_of_decodeCommand {w : BitVec 32} {i : Instr} (h : decodeCommand w = .ok i) :
    i.wellFormed = true := by
  obtain ⟨rfl, -⟩ := encode_of_decodeCommand h
  cases i
  case csrReadUnassigned addr =>
    have hrow := (decodeCommand_cmdWord 0 0 addr).symm.trans h
    rw [← (Except.ok.inj hrow : csrReadRow addr = _), csrReadRow_wellFormed]
  case csrWriteUnassigned addr =>
    have hrow := (decodeCommand_cmdWord 1 0 addr).symm.trans h
    rw [← (Except.ok.inj hrow : csrWriteRow addr = _), csrWriteRow_wellFormed]
  all_goals rfl

theorem encode_of_csrInstrRow {f : BitVec 3} {rd rs1 : BitVec 5} {csr : BitVec 12} {i : Instr}
    (h : csrInstrRow f rd csr rs1 = some i) :
    encode i = systemWord csr rs1 f rd ∧ i.wellFormed = true ∧ i.channel = .instruction := by
  obtain ⟨k, hk, rfl⟩ := exists_eq_ofNat f
  interval_cases k <;> cases h <;> exact ⟨rfl, rfl, rfl⟩

theorem encode_of_privilegedRow {w : BitVec 32} {i : Instr} (h : privilegedRow w = .ok i) :
    encode i = w ∧ i.wellFormed = true ∧ i.channel = .instruction := by
  unfold privilegedRow at h
  repeat' split at h
  case isFalse => cases h
  all_goals subst w; cases h; exact ⟨rfl, rfl, rfl⟩

theorem encode_of_decodeInstruction {w : BitVec 32} {i : Instr} (h : decodeInstruction w = .ok i) :
    encode i = w ∧ i.wellFormed = true ∧ i.channel = .instruction := by
  rw [decodeInstruction_eq] at h
  split at h
  · cases h
  · rename_i hop
    cases hrow : csrInstrRow (w.extractLsb' 12 3) (w.extractLsb' 7 5) (w.extractLsb' 20 12) (w.extractLsb' 15 5) with
    | none => rw [hrow] at h; exact encode_of_privilegedRow h
    | some j =>
      rw [hrow] at h
      obtain rfl := Except.ok.inj h
      have := encode_of_csrInstrRow hrow
      rwa [systemWord_fields (not_not.1 hop)] at this

/-- Settles O2: each decoder puts nothing into the instruction but the fields of the word. -/
theorem decodedWordHasOneMeaning : Obligations.DecodedWordHasOneMeaning := by
  intro c w i h
  cases c with
  | command =>
    obtain ⟨henc, hc⟩ := encode_of_decodeCommand h
    exact ⟨henc, wellFormed_of_decodeCommand h, hc⟩
  | instruction => exact encode_of_decodeInstruction h

/-- Settles O3: each word is a closed term, and the decoder computes on it. -/
theorem sampleWordsDecode : Obligations.SampleWordsDecode := by
  unfold Obligations.SampleWordsDecode
  decide

end Sys2Proof

namespace Sys2Proof

open Sys2Proof.Claims

/-! ### The decoder refuses exactly the words R127 reserves

For each shape of a command, the fields with which it is no reserved encoding. -/

theorem toNat_eq_zero_iff {n : Nat} (x : BitVec n) : x.toNat = 0 ↔ x = 0#n := by
  rw [← BitVec.toNat_inj, BitVec.toNat_ofNat, Nat.zero_mod]

theorem isOk_addrCommand (sub : BitVec 4) (i : Instr) : (addrCommand sub i).isOk = decide (sub = 0) := by
  unfold addrCommand
  split <;> rename_i h <;> simp only [h] <;> rfl

theorem isOk_plainCommand (sub : BitVec 4) (addr : BitVec 12) (i : Instr) :
    (plainCommand sub addr i).isOk = decide (sub = 0 ∧ addr = 0) := by
  unfold plainCommand
  split <;> rename_i h <;> simp only [h] <;> rfl

theorem isOk_eitherCommand (sub : BitVec 4) (i₀ i₁ : Instr) :
    (if sub = 0#4 then .ok i₀ else if sub = 1#4 then .ok i₁ else .error .reservedEncoding : Decoded).isOk =
      !decide (2 ≤ sub.toNat) := by
  obtain ⟨k, hk, rfl⟩ := exists_eq_ofNat sub
  interval_cases k <;> rfl

theorem isOk_pairCommand (sub : BitVec 4) (addr : BitVec 12) (i₀ i₁ : Instr) :
    (pairCommand sub addr i₀ i₁).isOk = (decide (addr = 0) && !decide (2 ≤ sub.toNat)) := by
  rw [← isOk_eitherCommand sub i₀ i₁, pairCommand]
  split <;> rename_i h
  · simp only [h]; rfl
  · simp only [not_not.1 h]; rfl

theorem isOk_lookedUpIf (P : Prop) [Decidable P] (o : Option Instr) :
    (if P then lookedUp o else .error .reservedEncoding : Decoded).isOk = (decide P && o.isSome) := by
  split <;> rename_i h <;> simp only [h] <;> cases o <;> rfl

theorem IntReg.isSome_ofSel (a : BitVec 12) : (IntReg.ofSel a).isSome = !decide (5 < a.toNat) := by
  cases h : IntReg.ofSel a with
  | some r =>
    obtain rfl := (IntReg.ofSel_eq_some_iff a r).1 h
    cases r <;> rfl
  | none =>
    have hgt : 5 < a.toNat := by
      by_contra hle
      obtain ⟨k, hk, rfl⟩ : ∃ k ≤ 5, a = BitVec.ofNat 12 k := ⟨a.toNat, not_lt.1 hle, by simp⟩
      interval_cases k <;> cases h
    simp only [hgt]
    rfl

theorem Ext.isSome_ofId (k : BitVec 4) : (Ext.ofId k).isSome = !decide (8 ≤ k.toNat) := by
  obtain ⟨k, hk, rfl⟩ := exists_eq_ofNat k
  interval_cases k <;> rfl

theorem isSome_effPrivRow (sub : BitVec 4) : (effPrivRow sub).isSome = !decide (4 ≤ sub.toNat) := by
  obtain ⟨k, hk, rfl⟩ := exists_eq_ofNat sub
  interval_cases k <;> rfl

theorem isOk_decodeOp (op sub : BitVec 4) (addr : BitVec 12) :
    (decodeOp op sub addr).isOk = !reserved (cmdWord op sub addr) := by
  have hop : (cmdWord op sub addr).extractLsb' 28 4 = op := cmdOp_cmdWord op sub addr
  have hsub : (cmdWord op sub addr).extractLsb' 24 4 = sub := cmdSub_cmdWord op sub addr
  have hrsv : (cmdWord op sub addr).extractLsb' 12 12 = 0 := cmdRsv_cmdWord op sub addr
  have haddr : (cmdWord op sub addr).extractLsb' 0 12 = addr := cmdAddr_cmdWord op sub addr
  rw [reserved, hop, hsub, hrsv, haddr]
  obtain ⟨k, hk, rfl⟩ := exists_eq_ofNat op
  interval_cases k
  · -- CSR_READ
    simp [decodeOp, isOk_addrCommand, toNat_eq_zero_iff]
  · -- CSR_WRITE
    simp [decodeOp, isOk_addrCommand, toNat_eq_zero_iff]
  · -- RAW_READ
    simp [decodeOp, isOk_addrCommand, toNat_eq_zero_iff]
  · -- RAW_WRITE
    simp [decodeOp, isOk_addrCommand, toNat_eq_zero_iff]
  · -- INT_READ
    simp [decodeOp, isOk_lookedUpIf, IntReg.isSome_ofSel, toNat_eq_zero_iff]
  · -- INT_WRITE
    simp [decodeOp, isOk_lookedUpIf, IntReg.isSome_ofSel, toNat_eq_zero_iff]
  · -- EFF_PRIV
    simp [decodeOp, isOk_lookedUpIf, isSome_effPrivRow, toNat_eq_zero_iff, Bool.and_comm]
  · -- CUR_ARCH
    simp [decodeOp, isOk_plainCommand, toNat_eq_zero_iff]
  · -- TVEC_ADDR
    simp [decodeOp, isOk_pairCommand, toNat_eq_zero_iff, Bool.and_comm]
  · -- PC_ALIGN_MASK
    simp [decodeOp, isOk_plainCommand, toNat_eq_zero_iff]
  · -- HAVE_EXT
    simp [decodeOp, isOk_lookedUpIf, Ext.isSome_ofId, toNat_eq_zero_iff, Bool.and_comm]
  · -- RETIRE
    simp [decodeOp, isOk_plainCommand, toNat_eq_zero_iff]
  · -- ACCESS_CHECK
    simp [decodeOp, isOk_eitherCommand]
  · -- TRAP_ENTER
    simp [decodeOp, isOk_pairCommand, toNat_eq_zero_iff, Bool.and_comm]
  · -- XRET
    simp [decodeOp, isOk_pairCommand, toNat_eq_zero_iff, Bool.and_comm]
  · -- RESET
    simp [decodeOp, isOk_plainCommand, toNat_eq_zero_iff]

/-- R127: a word decodes exactly when it is not reserved. -/
theorem isOk_decodeCommand (w : BitVec 32) : (decodeCommand w).isOk = !reserved w := by
  by_cases h : cmdRsv w = 0
  · have hw := isOk_decodeOp (cmdOp w) (cmdSub w) (cmdAddr w)
    rwa [← decodeCommand_cmdWord, cmdWord_fields h] at hw
  · have hrsv : w.extractLsb' 12 12 ≠ 0 := h
    rw [decodeCommand, if_pos h, reserved, decide_eq_true hrsv]
    rfl

theorem decodeCommand_of_reserved {w : BitVec 32} (h : reserved w = true) : ∃ e, decodeCommand w = .error e := by
  have hw := isOk_decodeCommand w
  cases hd : decodeCommand w with
  | ok i => rw [hd, h] at hw; cases hw
  | error e => exact ⟨e, rfl⟩

theorem decodeCommand_of_not_reserved {w : BitVec 32} (h : reserved w = false) : ∃ i, decodeCommand w = .ok i := by
  have hw := isOk_decodeCommand w
  cases hd : decodeCommand w with
  | ok i => exact ⟨i, rfl⟩
  | error e => rw [hd, h] at hw; cases hw

theorem decodeOp_of_decodeCommand {w : BitVec 32} {i : Instr} (h : decodeCommand w = .ok i) :
    decodeOp (cmdOp w) (cmdSub w) (cmdAddr w) = .ok i := by
  unfold decodeCommand at h
  split at h
  · cases h
  · exact h

end Sys2Proof

namespace Sys2Proof.Machine

open Sys2Proof.Claims

/-! ### Numbers R130 does not assign -/

theorem addr_mem_assignedNumbers (x : Xlen) (c : Csr) : c.assignedAt x = true → c.addr ∈ assignedNumbers x := by
  cases c <;> cases x <;> decide

/-- The numbers of R130 are those of the model's map. -/
theorem mem_assignedNumbers_iff (x : Xlen) (addr : BitVec 12) :
    addr ∈ assignedNumbers x ↔ assignedAddr x addr = true := by
  have hall : (assignedNumbers x).all (assignedAddr x) = true := by cases x <;> decide
  refine ⟨List.all_eq_true.1 hall addr, fun h => ?_⟩
  unfold assignedAddr at h
  split at h
  · rename_i c hc
    obtain rfl := (Csr.ofAddr_eq_some_iff addr c).1 hc
    exact addr_mem_assignedNumbers x c h
  · cases h

theorem ofAddr_of_not_assigned {x : Xlen} {addr : BitVec 12} (h : addr ∉ assignedNumbers x) :
    Csr.ofAddr addr = none ∨ ∃ c, Csr.ofAddr addr = some c ∧ c.assignedAt x = false := by
  rw [mem_assignedNumbers_iff, assignedAddr] at h
  cases hc : Csr.ofAddr addr with
  | none => exact .inl rfl
  | some c => rw [hc] at h; exact .inr ⟨c, rfl, Bool.eq_false_iff.2 h⟩

theorem exec_csrReadRow (addr : BitVec 12) (s : State) : exec (csrReadRow addr) s = .next (csrReadAt addr s) := by
  cases h : Csr.ofAddr addr with
  | none => simp only [csrReadRow, csrReadAt, h, exec, execCsrReadUnassigned]; rfl
  | some c => simp only [csrReadRow, csrReadAt, h]; cases c <;> rfl

theorem exec_csrWriteRow (addr : BitVec 12) (s : State) :
    exec (csrWriteRow addr) s = .next (csrWriteAt addr s.port s) := by
  cases h : Csr.ofAddr addr with
  | none => simp only [csrWriteRow, csrWriteAt, h, exec, execCsrWriteUnassigned]; rfl
  | some c => simp only [csrWriteRow, csrWriteAt, h]; cases c <;> rfl

section Unassigned

variable {s : State} {addr : BitVec 12} (hf : s.faulted = false) (ha : addr ∉ assignedNumbers s.params.xlen)

include hf ha

theorem csrReadAt_unassigned : csrReadAt addr s = s.reject .noSuchCsr := by
  rcases ofAddr_of_not_assigned ha with h | ⟨c, h, hc⟩
  · simp only [csrReadAt, h, noSuchCsr, State.command_running hf]
  · simp [csrReadAt, h, csrRead, hc, State.command_running hf]

theorem csrWriteAt_unassigned (p : Inputs) : csrWriteAt addr p s = s.reject .noSuchCsr := by
  rcases ofAddr_of_not_assigned ha with h | ⟨c, h, hc⟩
  · simp only [csrWriteAt, h, noSuchCsr, State.command_running hf]
  · simp [csrWriteAt, h, csrWrite, hc, State.command_running hf]

theorem rawRead_unassigned : rawRead addr s = s.reject .noSuchCsr := by
  rcases ofAddr_of_not_assigned ha with h | ⟨c, h, hc⟩
  · simp only [rawRead, h, State.command_running hf]
  · simp [rawRead, h, hc, State.command_running hf]

theorem rawWrite_unassigned (p : Inputs) : rawWrite addr p s = s.reject .noSuchCsr := by
  rcases ofAddr_of_not_assigned ha with h | ⟨c, h, hc⟩
  · simp only [rawWrite, h, State.command_running hf]
  · simp [rawWrite, h, hc, State.command_running hf]

/-- A CSR or raw access that decodes to `i`, on a number R130 does not assign. -/
theorem exec_unassigned {op sub : BitVec 4} {i : Instr} (hop : op.toNat < 4) (hd : decodeOp op sub addr = .ok i) :
    exec i s = .next (s.reject .noSuchCsr) := by
  obtain ⟨k, hk, rfl⟩ : ∃ k < 4, op = BitVec.ofNat 4 k := ⟨op.toNat, hop, by simp⟩
  interval_cases k
  · -- CSR_READ
    obtain ⟨-, rfl⟩ := addrCommand_eq_ok (j := csrReadRow addr) hd
    rw [exec_csrReadRow, csrReadAt_unassigned hf ha]
  · -- CSR_WRITE
    obtain ⟨-, rfl⟩ := addrCommand_eq_ok (j := csrWriteRow addr) hd
    rw [exec_csrWriteRow, csrWriteAt_unassigned hf ha]
  · -- RAW_READ
    obtain ⟨-, rfl⟩ := addrCommand_eq_ok (j := .rawRead addr) hd
    exact congrArg _ (rawRead_unassigned hf ha)
  · -- RAW_WRITE
    obtain ⟨-, rfl⟩ := addrCommand_eq_ok (j := .rawWrite addr) hd
    exact congrArg _ (rawWrite_unassigned hf ha s.port)

end Unassigned

/-- Settles O4: the words the decoder refuses are those of R127, and no register answers at a number R130 does not assign. -/
theorem reservedWordsRejected : Obligations.ReservedWordsRejected := by
  intro s p rest hp hf
  refine ⟨fun hr => ?_, decodeCommand_of_not_reserved, fun hr hop ha => ?_⟩
  · obtain ⟨e, hd⟩ := decodeCommand_of_reserved hr
    rw [step_of_reserved hp hd, rejectReserved, State.command_running (s := s.load p rest) hf]
    rfl
  · obtain ⟨i, hd⟩ := decodeCommand_of_not_reserved hr
    rw [step_of_command hp hd]
    exact exec_unassigned (s := s.load p rest) hf ha hop (decodeOp_of_decodeCommand hd)

end Sys2Proof.Machine

namespace Sys2Proof.Machine

/-! ### The laws of the field codec (40_codec_capabilities.md R204) and the layouts (R203) -/

theorem toNat_and_lowOnes (v : Word) (k : Nat) : (v &&& lowOnes k).toNat = v.toNat % 2 ^ k := by
  apply Nat.eq_of_testBit_eq
  intro n
  have bit : (v &&& lowOnes k).getLsbD n = (decide (n < k) && v.getLsbD n) := by
    rw [BitVec.getLsbD_and, getLsbD_lowOnes]
    by_cases hn : n < 64
    · simp [hn, Bool.and_comm]
    · simp [BitVec.getLsbD_of_ge v n (by omega)]
  rw [Nat.testBit_mod_two_pow]
  exact bit

theorem getField_setField_disjoint {F G : Field} (hF : F.lo ≤ F.hi) (hG : G.lo ≤ G.hi)
    (h : F.hi < G.lo ∨ G.hi < F.lo) (w v : Word) : getField (setField w F v) G = getField w G := by
  apply word_ext
  intro n _
  rw [getLsbD_getField, getLsbD_getField, getLsbD_setField]
  by_cases hn : n < G.width
  · have outside : ¬ (F.lo ≤ G.lo + n ∧ G.lo + n - F.lo < F.width) := by
      simp only [Field.width] at hn ⊢
      omega
    rw [if_neg outside]
  · simp [hn]

theorem setField_getField (w : Word) (F : Field) : setField w F (getField w F) = w := by
  apply word_ext
  intro n hn
  rw [getLsbD_setField]
  split
  next inside => simp [inside, hn, Nat.add_sub_cancel' inside.1]
  next => rfl

/-- `Field.disjoint` decides that two fields share no bit. -/
theorem Field.disjoint_iff (F G : Field) : F.disjoint G = true ↔ F.hi < G.lo ∨ G.hi < F.lo := by
  simp [Field.disjoint]

/-- What the check of a layout decides. -/
theorem fieldsOk_iff (w : Nat) (L : List Field) :
    fieldsOk w L = true ↔
      (∀ F ∈ L, F.lo ≤ F.hi ∧ F.hi < w) ∧ L.Pairwise fun F G => F.hi < G.lo ∨ G.hi < F.lo := by
  induction L with
  | nil => simp [fieldsOk]
  | cons F rest ih =>
    simp only [fieldsOk, Bool.and_eq_true, decide_eq_true_eq, List.all_eq_true, Field.disjoint_iff, ih,
      List.forall_mem_cons, List.pairwise_cons]
    tauto

/-- R203 over the layout tables: the check computes. -/
theorem layoutOk_of_mem {x : Xlen} {L : Nat × List Field} (h : L ∈ layouts x) : layoutOk L = true := by
  have hall : (layouts x).all layoutOk = true := by cases x <;> decide
  exact List.all_eq_true.1 hall L h

/-- Settles O60: the laws bit by bit, and the layouts by the check, which decides what R203 says. -/
theorem fieldCodec : Obligations.FieldCodec := by
  refine ⟨fun w v F hF hlt => ⟨?_, fun G hG _ h => getField_setField_disjoint hF hG h w v, setField_getField w F⟩,
    fun x L hL => ?_⟩
  · have hw : F.lo + F.width ≤ 64 := by
      rw [Field.width]
      omega
    rw [getField_setField_same hw, toNat_and_lowOnes, Field.width]
  · have hok := layoutOk_of_mem hL
    obtain ⟨hin, hdisj⟩ := (fieldsOk_iff L.1 L.2).1 hok
    exact ⟨hin, hdisj, hok⟩

end Sys2Proof.Machine

namespace Sys2Proof.Machine

open Sys2Proof.Claims

/-! ### The mask and the extension queries (43_resolvers.md R348 to R351) -/

theorem decodeOp_haveExt_reserved {sub : BitVec 4} (h : 8 ≤ sub.toNat) :
    decodeOp 0xA sub 0 = .error .reservedEncoding := by
  have hid : Ext.ofId sub = none := by
    simpa [h] using Ext.isSome_ofId sub
  show lookedUp ((Ext.ofId sub).map Ext.haveInstr) = .error .reservedEncoding
  rw [hid]
  rfl

theorem pcAlignmentMask_eq_pcMask (s : State) : pcAlignmentMask s = pcMask s.params.xlen (hasC s) := by
  rw [pcAlignmentMask, show haveC s = hasC s from rfl]
  cases s.params.xlen <;> cases hasC s <;> decide

/-- FS is other than Off, by its bits (40_codec_capabilities.md R211). -/
theorem fsOn_eq (s : State) : fsOn s = (s.mstatus.getLsbD 13 || s.mstatus.getLsbD 14) := by
  have hoff : getField s.mstatus Mstatus.fs = ExtStatus.off.code ↔ _ := getField_pair s.mstatus 13 0 (by decide)
  simp only [fsOn, ne_eq, hoff]
  cases s.mstatus.getLsbD 13 <;> cases s.mstatus.getLsbD 14 <;> rfl

section Running

variable {s : State} (hf : s.faulted = false)
include hf

theorem exec_pcAlignMask_running :
    exec .pcAlignMask s = .next { s with out := .ok (some (pcMask s.params.xlen (hasC s))) } := by
  rw [← pcAlignmentMask_eq_pcMask]
  exact congrArg _ (State.command_running hf _)

/-- HAVE_EXT of every extension answers its predicate (R351). -/
theorem exec_haveInstr_running (e : Ext) :
    exec e.haveInstr s = .next { s with out := .ok (some (answer (haveExtension e s))) } := by
  have hexec : exec e.haveInstr s = .next (haveExt e s) := by cases e <;> rfl
  rw [hexec, haveExt, State.command_running hf]
  rfl

end Running

/-- Settles O37: each query answers its predicate, and FS is read by its two bits. -/
theorem maskAndExtensionQueries : Obligations.MaskAndExtensionQueries := by
  refine ⟨?_, fun e he => ?_, fun s hf => ?_⟩
  · unfold words
    decide
  · exact (decodeCommand_cmdWord 0xA e 0).trans (decodeOp_haveExt_reserved he)
  · have query := exec_haveInstr_running hf
    refine ⟨exec_pcAlignMask_running hf, query .a, query .c, query .m, query .s, query .u, query .n, ?_⟩
    rw [← fsOn_eq]
    exact ⟨query .f, query .d⟩

end Sys2Proof.Machine

namespace Sys2Proof.Machine

open Sys2Proof.Claims

/-! ### CSR_READ and CSR_WRITE of a register, by the register (41_machine_csrs.md R230, R231) -/

theorem exec_readInstr (c : Csr) (s : State) : exec c.readInstr s = .next (csrRead c s) := by
  rw [← csrReadRow_addr, exec_csrReadRow, csrReadAt, Csr.ofAddr_addr]

theorem exec_writeInstr (c : Csr) (s : State) : exec c.writeInstr s = .next (csrWrite c s.port s) := by
  rw [← csrWriteRow_addr, exec_csrWriteRow, csrWriteAt, Csr.ofAddr_addr]

/-- At XLEN=64 R130 assigns the upper halves of the counters to no register. -/
theorem assignedAt_high_rv64 {c : Csr} (hc : c.isHigh = true) {x : Xlen} (hx : x = .rv64) : c.assignedAt x = false := by
  rw [Csr.assignedAt, hc, hx]
  rfl

theorem data_eq (s : State) : data s = s.port.data s.params.xlen := low_eq_trunc _ _

section Running

variable {s : State} (hf : s.faulted = false)
include hf

theorem exec_readInstr_running (c : Csr) (ha : c.assignedAt s.params.xlen = true) {v : Word} (hv : readCsr c s = v) :
    exec c.readInstr s = .next { s with out := .ok (some v) } := by
  rw [exec_readInstr, csrRead_running hf ha, hv]
  rfl

theorem exec_writeInstr_running (c : Csr) (ha : c.assignedAt s.params.xlen = true) {t : State}
    (ht : writeCsr c s.port s = t) : exec c.writeInstr s = .next t := by
  rw [exec_writeInstr, csrWrite_running s.port hf ha, ht]

theorem exec_readInstr_unassigned (c : Csr) (ha : c.assignedAt s.params.xlen = false) :
    exec c.readInstr s = .next { s with out := .rejected .noSuchCsr } := by
  rw [exec_readInstr, csrRead, State.command_running hf, ha]
  rfl

theorem exec_writeInstr_unassigned (c : Csr) (ha : c.assignedAt s.params.xlen = false) :
    exec c.writeInstr s = .next { s with out := .rejected .noSuchCsr } := by
  rw [exec_writeInstr, csrWrite, State.command_running hf, ha]
  rfl

end Running

/-- Settles O9: each of these registers has its stored field as read value. -/
theorem storedRegistersRead : Obligations.StoredRegistersRead := by
  intro s hf
  have read := @exec_readInstr_running s hf
  exact ⟨read .misa rfl rfl, read .mstatus rfl rfl, read .mip rfl rfl, read .mie rfl rfl, read .mideleg rfl rfl,
    read .medeleg rfl rfl, read .mtvec rfl rfl, read .mcounteren rfl rfl, read .mcountinhibit rfl rfl,
    read .mscratch rfl rfl, read .mcause rfl rfl, read .mtval rfl rfl, read .tselect rfl rfl, read .stvec rfl rfl,
    read .scounteren rfl rfl, read .sscratch rfl rfl, read .scause rfl rfl, read .stval rfl rfl, read .satp rfl rfl⟩

/-- Settles O10: the read value is the parameter, and the write rule is a rejection. -/
theorem informationalRegisters : Obligations.InformationalRegisters := by
  refine ⟨by unfold words; decide, fun s hf => ?_⟩
  have read := @exec_readInstr_running s hf
  have write := @exec_writeInstr_running s hf
  exact ⟨read .mvendorid rfl rfl, read .marchid rfl rfl, read .mimpid rfl rfl, read .mhartid rfl rfl,
    write .mvendorid rfl rfl, write .marchid rfl rfl, write .mimpid rfl rfl, write .mhartid rfl rfl⟩

/-- At XLEN=32 R130 assigns every number of the map. -/
theorem unassigned_of_not_assigned_rv32 {addr : BitVec 12} (h : addr ∉ assignedNumbers .rv32) :
    unassigned addr = true := by
  rcases ofAddr_of_not_assigned h with h | ⟨c, -, hc⟩
  · rw [unassigned, h]
    rfl
  · cases c <;> cases hc

theorem assignedNumbers_subset_rv32 (x : Xlen) : assignedNumbers x ⊆ assignedNumbers .rv32 := by
  cases x <;> decide

/-- Settles O14: such a word decodes to the row of its number, and no register answers there. -/
theorem unassignedNumbersRejected : Obligations.UnassignedNumbersRejected := by
  have readRow {addr} (h : addr ∉ assignedNumbers .rv32) : decodeOp 0 0 addr = .ok (.csrReadUnassigned addr) :=
    congrArg _ (csrReadRow_unassigned (unassigned_of_not_assigned_rv32 h))
  have writeRow {addr} (h : addr ∉ assignedNumbers .rv32) : decodeOp 1 0 addr = .ok (.csrWriteUnassigned addr) :=
    congrArg _ (csrWriteRow_unassigned (unassigned_of_not_assigned_rv32 h))
  refine ⟨fun addr h => ?_, fun s hf => ⟨fun addr h => ?_, fun hx i hi => ?_⟩⟩
  · exact ⟨(decodeCommand_cmdWord 0 0 addr).trans (readRow h), (decodeCommand_cmdWord 1 0 addr).trans (writeRow h)⟩
  · have hs := mt (@assignedNumbers_subset_rv32 s.params.xlen addr) h
    exact ⟨exec_unassigned hf hs (by decide) (readRow h), exec_unassigned hf hs (by decide) (writeRow h)⟩
  · simp only [List.mem_cons, List.not_mem_nil, or_false] at hi
    rcases hi with rfl | rfl | rfl | rfl
    · exact exec_readInstr_unassigned hf .mcycleh (assignedAt_high_rv64 rfl hx)
    · exact exec_writeInstr_unassigned hf .mcycleh (assignedAt_high_rv64 rfl hx)
    · exact exec_readInstr_unassigned hf .minstreth (assignedAt_high_rv64 rfl hx)
    · exact exec_writeInstr_unassigned hf .minstreth (assignedAt_high_rv64 rfl hx)

/-- Settles O20: each of these registers stores the write data as it is. -/
theorem plainRegistersWrite : Obligations.PlainRegistersWrite := by
  refine ⟨by unfold words; decide, fun s hf => ?_⟩
  have write := @exec_writeInstr_running s hf
  rw [data_eq]
  exact ⟨write .mscratch rfl rfl, write .mcause rfl rfl, write .mtval rfl rfl, write .tselect rfl rfl,
    write .sscratch rfl rfl, write .scause rfl rfl, write .stval rfl rfl⟩

end Sys2Proof.Machine

namespace Sys2Proof.Machine

open Sys2Proof.Claims

/-! ### Write data of XLEN bits -/

theorem trunc_rv64 (v : Word) : Xlen.rv64.trunc v = v := BitVec.and_allOnes

/-- A mask of XLEN bits does not see the cut of the write data to XLEN bits. -/
theorem trunc_and {x : Xlen} {k : Word} (hk : Fits x k) (v : Word) : x.trunc v &&& k = v &&& k := by
  rw [Xlen.trunc, BitVec.and_assoc, BitVec.and_comm x.ones k, Within.and_eq hk]

theorem setWidth_trunc (x : Xlen) (v : Word) : (x.trunc v).setWidth 32 = v.setWidth 32 := by
  have hones : x.ones.setWidth 32 = BitVec.allOnes 32 := by cases x <;> decide
  rw [Xlen.trunc, BitVec.setWidth_and, hones, BitVec.and_allOnes]

theorem half_le_bits (x : Xlen) : 32 ≤ x.bits := by cases x <;> decide

/-- A bit of the low half of the write data is there at either XLEN. -/
theorem data_bit_low (s : State) {n : Nat} (hn : n < 32) :
    (s.port.data s.params.xlen).getLsbD n = s.port.wdata.getLsbD n := by
  have hlt : n < s.params.xlen.bits := lt_of_lt_of_le hn (half_le_bits _)
  rw [Inputs.data, Xlen.getLsbD_trunc, decide_eq_true hlt, Bool.true_and]

theorem legalizeCounteren_data (s : State) :
    legalizeCounteren (s.port.data s.params.xlen) = (s.port.wdata.extractLsb' 0 3).setWidth 32 := by
  have hmask : ∀ n < 32, counterenMask.getLsbD n = decide (n < 3) := by decide
  rw [legalizeCounteren, Inputs.data, setWidth_trunc]
  apply BitVec.eq_of_getLsbD_eq
  intro n hn
  simp only [BitVec.getLsbD_and, BitVec.getLsbD_setWidth, BitVec.getLsbD_extractLsb', hmask n hn, hn, decide_true,
    Bool.true_and, Nat.zero_add]
  rw [Bool.and_comm]

theorem legalizeCountinhibit_data (s : State) :
    legalizeCountinhibit (s.port.data s.params.xlen) = (s.port.wdata &&& 0b101).setWidth 32 := by
  rw [legalizeCountinhibit, Inputs.data, setWidth_trunc, BitVec.setWidth_and]
  rfl

/-- Settles O18: the legalizer of each register is a mask within XLEN bits. -/
theorem maskedRegistersWrite : Obligations.MaskedRegistersWrite := by
  refine ⟨by unfold words; decide, fun s hf => ?_⟩
  have write := @exec_writeInstr_running s hf
  have masked {k : Word} (hk : Within 0xFFFFFFFF k) : s.port.data s.params.xlen &&& k = s.port.wdata &&& k :=
    trunc_and (fits_of_within_low hk _) _
  rw [← masked (k := 0x333) (by decide), ← masked (k := 0xB3FF) (by decide), ← legalizeCounteren_data,
    ← legalizeCountinhibit_data]
  exact ⟨write .mideleg rfl rfl, write .medeleg rfl rfl, write .mcounteren rfl rfl, write .scounteren rfl rfl,
    write .mcountinhibit rfl rfl⟩

/-! ### The counters (41_machine_csrs.md R268 to R275) -/

theorem lo32_eq_lowHalf (v : Word) : lo32 v = lowHalf v := by
  rw [lo32, ← BitVec.setWidth_eq_extractLsb' (by decide)]
  exact low_eq_trunc .rv32 v

theorem hi32_eq_highHalf (v : Word) : hi32 v = highHalf v := by
  apply word_ext
  intro n hn
  rw [hi32, getLsbD_highHalf, BitVec.getLsbD_setWidth, BitVec.getLsbD_extractLsb']
  by_cases h : n < 32
  · simp only [hn, h, decide_true, Bool.true_and]
  · rw [BitVec.getLsbD_of_ge v _ (by omega)]
    simp [h]

theorem pair32_eq_joinHalves (hi lo : Word) : pair32 hi lo = joinHalves hi lo := by
  apply word_ext
  intro n hn
  rw [pair32, BitVec.getLsbD_append, getLsbD_joinHalves, BitVec.getLsbD_setWidth, BitVec.getLsbD_setWidth]
  split
  next h => simp only [h, decide_true, Bool.true_and]
  next h =>
    have : n - 32 < 32 := by omega
    simp only [this, hn]

/-- A half takes 32 bits of the write data, which are all there at either XLEN. -/
theorem joinHalves_trunc_right (x : Xlen) (hi lo : Word) : joinHalves hi (x.trunc lo) = joinHalves hi lo := by
  rw [joinHalves, joinHalves, lowHalf, lowHalf, trunc_and (fits_of_within_low (by decide) x)]

theorem joinHalves_trunc_left (x : Xlen) (hi lo : Word) : joinHalves (x.trunc hi) lo = joinHalves hi lo := by
  apply word_ext
  intro n hn
  have hhalf : n - 32 < x.bits := by
    have := half_le_bits x
    omega
  rw [getLsbD_joinHalves, getLsbD_joinHalves, Xlen.getLsbD_trunc, decide_eq_true hhalf, Bool.true_and]

section Counters

variable {s : State}

theorem writeMcycle_rv64 (hx : s.params.xlen = .rv64) :
    writeMcycle s.port s = { s with mcycle := s.port.wdata, out := .ok none } := by
  rw [writeMcycle, hx, Inputs.data, trunc_rv64]
  rfl

theorem writeMinstret_rv64 (hx : s.params.xlen = .rv64) :
    writeMinstret s.port s = { s with minstret := s.port.wdata, minstretWritten := true, out := .ok none } := by
  rw [writeMinstret, hx, Inputs.data, trunc_rv64]
  rfl

theorem writeCounterLow_data_rv32 (hx : s.params.xlen = .rv32) (old : Word) :
    writeCounterLow s.params.xlen old (s.port.data s.params.xlen) = pair32 (hi32 old) s.port.wdata := by
  rw [hx, pair32_eq_joinHalves, hi32_eq_highHalf]
  exact joinHalves_trunc_right _ _ _

theorem writeMcycle_rv32 (hx : s.params.xlen = .rv32) :
    writeMcycle s.port s = { s with mcycle := pair32 (hi32 s.mcycle) s.port.wdata, out := .ok none } := by
  rw [writeMcycle, writeCounterLow_data_rv32 hx]
  rfl

theorem writeMinstret_rv32 (hx : s.params.xlen = .rv32) :
    writeMinstret s.port s =
      { s with minstret := pair32 (hi32 s.minstret) s.port.wdata, minstretWritten := true, out := .ok none } := by
  rw [writeMinstret, writeCounterLow_data_rv32 hx]
  rfl

end Counters

theorem writeCounterHigh_data (s : State) (old : Word) :
    writeCounterHigh old (s.port.data s.params.xlen) = pair32 s.port.wdata old := by
  rw [pair32_eq_joinHalves]
  exact joinHalves_trunc_left _ _ _

theorem writeMcycleh_eq (s : State) :
    writeMcycleh s.port s = { s with mcycle := pair32 s.port.wdata s.mcycle, out := .ok none } := by
  rw [writeMcycleh, writeCounterHigh_data]
  rfl

theorem writeMinstreth_eq (s : State) :
    writeMinstreth s.port s =
      { s with minstret := pair32 s.port.wdata s.minstret, minstretWritten := true, out := .ok none } := by
  rw [writeMinstreth, writeCounterHigh_data]
  rfl

/-- Settles O12: at XLEN=64 the whole counter moves, at XLEN=32 the half that the number names. -/
theorem countersReadAndWritten : Obligations.CountersReadAndWritten := by
  refine ⟨by unfold words; decide, fun s hf => ?_⟩
  have read := @exec_readInstr_running s hf
  have write := @exec_writeInstr_running s hf
  refine ⟨fun hx => ?_, fun hx => ?_⟩
  · have whole (c : Word) : counterLow s.params.xlen c = c := by rw [hx]; rfl
    have readHigh (c : Csr) (hc : c.isHigh = true) := exec_readInstr_unassigned hf c (assignedAt_high_rv64 hc hx)
    have writeHigh (c : Csr) (hc : c.isHigh = true) := exec_writeInstr_unassigned hf c (assignedAt_high_rv64 hc hx)
    exact ⟨read .mcycle rfl (whole _), read .minstret rfl (whole _), write .mcycle rfl (writeMcycle_rv64 hx),
      write .minstret rfl (writeMinstret_rv64 hx), readHigh .mcycleh rfl, writeHigh .mcycleh rfl,
      readHigh .minstreth rfl, writeHigh .minstreth rfl⟩
  · have low (c : Word) : counterLow s.params.xlen c = lo32 c := by rw [hx, lo32_eq_lowHalf]; rfl
    have assigned (c : Csr) : c.assignedAt s.params.xlen = true := by rw [hx]; cases c <;> rfl
    exact ⟨read .mcycle rfl (low _), read .minstret rfl (low _), read .mcycleh (assigned _) (hi32_eq_highHalf _).symm,
      read .minstreth (assigned _) (hi32_eq_highHalf _).symm, write .mcycle rfl (writeMcycle_rv32 hx),
      write .mcycleh (assigned _) (writeMcycleh_eq s), write .minstret rfl (writeMinstret_rv32 hx),
      write .minstreth (assigned _) (writeMinstreth_eq s)⟩

end Sys2Proof.Machine

namespace Sys2Proof.Machine

open Sys2Proof.Claims

/-! ### The bits a field update leaves -/

theorem getLsbD_and_not (v k : Word) (n : Nat) : (v &&& ~~~k).getLsbD n = (v.getLsbD n && !k.getLsbD n) := by
  by_cases hn : n < 64
  · rw [BitVec.getLsbD_and, BitVec.getLsbD_not, decide_eq_true hn, Bool.true_and]
  · rw [BitVec.getLsbD_of_ge _ _ (by omega), BitVec.getLsbD_of_ge v _ (by omega), Bool.false_and]

/-- A field set to the same field of another word. -/
theorem getLsbD_copyField (w v : Word) (F : Field) (n : Nat) :
    (setField w F (getField v F)).getLsbD n = if F.lo ≤ n ∧ n - F.lo < F.width then v.getLsbD n else w.getLsbD n := by
  rw [getLsbD_setField, getLsbD_getField]
  split
  next inside =>
    rw [decide_eq_true inside.2, Bool.true_and, Nat.add_sub_cancel' inside.1]
    by_cases hn : n < 64
    · rw [decide_eq_true hn, Bool.true_and]
    · rw [BitVec.getLsbD_of_ge v _ (by omega), Bool.and_false]
  next => rfl

theorem getLsbD_copyBit (w v : Word) (k n : Nat) :
    (setField w (.bit k) (getField v (.bit k))).getLsbD n = if n = k then v.getLsbD n else w.getLsbD n := by
  rw [getLsbD_copyField]
  refine if_congr ?_ rfl rfl
  simp only [Field.bit, Field.width]
  omega

/-- A field set to 0. -/
theorem getLsbD_clearField (w : Word) (F : Field) (n : Nat) :
    (setField w F 0).getLsbD n = if F.lo ≤ n ∧ n - F.lo < F.width then false else w.getLsbD n := by
  rw [getLsbD_setField]
  refine if_congr Iff.rfl ?_ rfl
  rw [show (0 : Word) = 0#64 from rfl, BitVec.getLsbD_zero, Bool.and_false]

/-- The two lowest bits of a word. -/
theorem and_three_eq_iff (v c : Word) (hc : c.toNat < 4) :
    v &&& 0b11 = c ↔ v.getLsbD 0 = c.getLsbD 0 ∧ v.getLsbD 1 = c.getLsbD 1 := by
  have hfield : getField v ⟨1, 0⟩ = v &&& 0b11 := by
    rw [getField, BitVec.ushiftRight_zero]
    rfl
  rw [← hfield]
  exact getField_pair v 0 c hc

/-! ### misa (41_machine_csrs.md R233) -/

/-- A CSR write may take bit C of `v`. -/
def mayWriteC (caps : Caps) (nextPc v : Word) : Bool :=
  let aligned := !nextPc.getLsbD 0 && !nextPc.getLsbD 1
  caps.writableMisa && caps.rvcBoot && (v.getLsbD 2 || (aligned && !caps.vetoDisableC))

/-- A CSR write may take bits F and D of `v`. -/
def mayWriteFD (caps : Caps) (v : Word) : Bool :=
  caps.writableMisa && caps.fdextBoot && !(v.getLsbD 3 && !v.getLsbD 5)

theorem legalizeMisa_eq (caps : Caps) (nextPc old v : Word) :
    legalizeMisa caps nextPc old v =
      let m := if mayWriteC caps nextPc v then setField old (.bit Misa.c) (getField v (.bit Misa.c)) else old
      if mayWriteFD caps v then
        setField (setField m (.bit Misa.f) (getField v (.bit Misa.f))) (.bit Misa.d) (getField v (.bit Misa.d))
      else m := by
  have haligned : decide (nextPc &&& 0b11 = 0) = (!nextPc.getLsbD 0 && !nextPc.getLsbD 1) := by
    rw [Bool.eq_iff_iff, decide_eq_true_iff, and_three_eq_iff nextPc 0 (by decide), Bool.and_eq_true,
      Bool.not_eq_true', Bool.not_eq_true']
    rfl
  rw [legalizeMisa, mayWriteC, mayWriteFD, haligned]
  cases caps.writableMisa <;> rfl

/-- The bits of misa a CSR write of `v` takes from `v`. -/
abbrev MisaBitTaken (caps : Caps) (nextPc v : Word) (n : Nat) : Prop :=
  (n = 2 ∧ mayWriteC caps nextPc v = true) ∨ ((n = 3 ∨ n = 5) ∧ mayWriteFD caps v = true)

theorem getLsbD_legalizeMisa (caps : Caps) (nextPc old v : Word) (n : Nat) :
    (legalizeMisa caps nextPc old v).getLsbD n =
      if MisaBitTaken caps nextPc v n then v.getLsbD n else old.getLsbD n := by
  have afterC :
      (if mayWriteC caps nextPc v then setField old (.bit Misa.c) (getField v (.bit Misa.c)) else old).getLsbD n =
        if n = 2 ∧ mayWriteC caps nextPc v = true then v.getLsbD n else old.getLsbD n := by
    split
    next h => simp only [getLsbD_copyBit, Misa.c, h, and_true]
    next h => rw [if_neg fun h' => h h'.2]
  rw [legalizeMisa_eq]
  dsimp only
  split
  next h =>
    rw [getLsbD_copyBit, getLsbD_copyBit, afterC]
    simp only [Misa.d, Misa.f, MisaBitTaken, h, and_true]
    grind
  next h => simp only [afterC, MisaBitTaken, h, Bool.false_eq_true, and_false, or_false]

/-- Settles O15: the bits taken from the write data lie below bit 32, where it is wdata. -/
theorem misaWrite : Obligations.MisaWrite := by
  refine ⟨by unfold words; decide, fun s hf => ⟨_, exec_writeInstr_running hf .misa rfl rfl, fun n _ => ?_⟩⟩
  have bit := @data_bit_low s
  have hC (caps nextPc) : mayWriteC caps nextPc (s.port.data s.params.xlen) = mayWriteC caps nextPc s.port.wdata := by
    rw [mayWriteC, mayWriteC, bit (by decide)]
  have hFD (caps) : mayWriteFD caps (s.port.data s.params.xlen) = mayWriteFD caps s.port.wdata := by
    rw [mayWriteFD, mayWriteFD, bit (by decide), bit (by decide)]
  rw [getLsbD_legalizeMisa]
  simp only [MisaBitTaken, hC, hFD]
  by_cases h2 : n = 2
  · subst h2
    rw [bit (by decide)]
    simp [misaBitAfterWrite, mayWriteC]
  · by_cases h35 : n = 3 ∨ n = 5
    · rw [bit (by omega)]
      simp [misaBitAfterWrite, mayWriteFD, h2, h35]
    · simp [misaBitAfterWrite, h2, h35]

end Sys2Proof.Machine

namespace Sys2Proof.Machine

open Sys2Proof.Claims

/-! ### mstatus (41_machine_csrs.md R235) -/

/-- Bit n of mstatus after a CSR write of `v`, but for SD. -/
def statusBitWritten (x : Xlen) (hasN hasU : Bool) (old v : Word) (n : Nat) : Bool :=
  if n ∈ [0, 4] then v.getLsbD n && hasN
  else if n = 17 then v.getLsbD n && hasU
  else if n ∈ [1, 3, 5, 7, 8, 11, 12, 13, 14, 18, 19, 20, 21, 22] then v.getLsbD n
  else if n ∈ [32, 33, 34, 35] then decide (x = .rv64) && old.getLsbD n
  else false

/-- The fields are written first, SD is derived last. -/
theorem legalizeMstatus_eq_withSd (x : Xlen) (hasN hasU : Bool) (old v : Word) :
    ∃ m, legalizeMstatus x hasN hasU old v = withSd x m ∧
      ∀ n < 64, n ≠ x.bits - 1 → m.getLsbD n = statusBitWritten x hasN hasU old v n := by
  refine ⟨_, rfl, fun n hn hsd => ?_⟩
  -- For each XLEN and each gate the bit is a function of n and of the bits that old and v have there.
  cases x <;> cases hasN <;> cases hasU
  all_goals
    simp only [getLsbD_copyField, getLsbD_clearField, BitVec.getLsbD_and, ExtStatus.code, Bool.false_eq_true, if_false,
      if_true, Mstatus.xs, Mstatus.sxl, Mstatus.uxl, Mstatus.upie, Mstatus.uie, Mstatus.mprv, Field.bit, Field.width,
      statusBitWritten]
    generalize v.getLsbD n = vn, old.getLsbD n = on
    revert n vn on
    decide

theorem getLsbD_legalizeMstatus (x : Xlen) (hasN hasU : Bool) (old v : Word) {n : Nat} (hn : n < 64) :
    (legalizeMstatus x hasN hasU old v).getLsbD n =
      if n = x.bits - 1 then v.getLsbD 13 && v.getLsbD 14 else statusBitWritten x hasN hasU old v n := by
  obtain ⟨m, hm, bits⟩ := legalizeMstatus_eq_withSd x hasN hasU old v
  have low (k : Nat) (hk : k < 31) : m.getLsbD k = statusBitWritten x hasN hasU old v k :=
    bits k (by omega) (by have := half_le_bits x; omega)
  rw [hm, getLsbD_withSd]
  split
  · rw [isDirty_eq, low 13 (by decide), low 14 (by decide), low 15 (by decide), low 16 (by decide)]
    exact Bool.or_false _
  next hsd => exact bits n hn hsd

/-- Of the write data only bits 31:0 reach mstatus. -/
theorem statusBitWritten_congr {v w : Word} (h : ∀ k < 32, v.getLsbD k = w.getLsbD k) (x : Xlen) (hasN hasU : Bool)
    (old : Word) (n : Nat) : statusBitWritten x hasN hasU old v n = statusBitWritten x hasN hasU old w n := by
  by_cases hn : n < 32
  · simp only [statusBitWritten, h n hn]
  · have above (l : List Nat) (hl : ∀ k ∈ l, k < 32) : n ∉ l := fun hmem => hn (hl n hmem)
    have h17 : n ≠ 17 := by omega
    simp only [statusBitWritten, above [0, 4] (by decide), h17,
      above [1, 3, 5, 7, 8, 11, 12, 13, 14, 18, 19, 20, 21, 22] (by decide), if_false]

/-- Writing what a write left there leaves it again. -/
theorem statusBitWritten_idem {x : Xlen} {hasN hasU : Bool} {old v w : Word} {n : Nat}
    (h : w.getLsbD n = statusBitWritten x hasN hasU old v n) :
    statusBitWritten x hasN hasU old w n = statusBitWritten x hasN hasU old v n := by
  unfold statusBitWritten at h ⊢
  rw [h]
  split_ifs <;> simp

theorem mstatusBitAfterWrite_eq (s : State) (n : Nat) :
    mstatusBitAfterWrite s n =
      if n = s.params.xlen.bits - 1 then s.port.wdata.getLsbD 13 && s.port.wdata.getLsbD 14
      else statusBitWritten s.params.xlen (hasN s) (hasU s) s.mstatus s.port.wdata n := by
  unfold mstatusBitAfterWrite statusBitWritten
  by_cases h17 : n = 17
  · rw [h17]
  · simp only [h17, if_false]

/-- Settles O16: the fields written lie below bit 32, where the write data is wdata, and SD is FS = Dirty. -/
theorem mstatusWrite : Obligations.MstatusWrite := by
  refine ⟨by unfold words; decide, fun s hf => ⟨_, exec_writeInstr_running hf .mstatus rfl rfl, fun n hn => ?_⟩⟩
  have low (k : Nat) (hk : k < 32) := data_bit_low s hk
  rw [getLsbD_legalizeMstatus _ _ _ _ _ hn, mstatusBitAfterWrite_eq, low 13 (by decide), low 14 (by decide),
    statusBitWritten_congr low]
  rfl

/-! ### mip and mie (41_machine_csrs.md R237, R239) -/

theorem getLsbD_mipWritable (hasU hasN : Bool) {n : Nat} (hn : n < 64) :
    (mipWritable (hasU && hasN)).getLsbD n =
      decide (n ∈ [1, 5, 9] ∨ (n ∈ [0, 4, 8] ∧ hasU = true ∧ hasN = true)) := by
  cases hasU <;> cases hasN <;> revert n <;> decide

theorem getLsbD_mieWritable (hasU hasN : Bool) {n : Nat} (hn : n < 64) :
    (mieWritable (hasU && hasN)).getLsbD n =
      decide (n ∈ [1, 3, 5, 7, 9, 11] ∨ (n ∈ [0, 4, 8] ∧ hasU = true ∧ hasN = true)) := by
  cases hasU <;> cases hasN <;> revert n <;> decide

/-- A masked write whose mask has the bits `P`, all below 32. -/
theorem getLsbD_mergeData {P : Prop} [Decidable P] {wm : Word} (s : State) (old : Word) {n : Nat}
    (hm : wm.getLsbD n = decide P) (hP : P → n < 32) :
    (mergeBits wm old (s.port.data s.params.xlen)).getLsbD n =
      if P then s.port.wdata.getLsbD n else old.getLsbD n := by
  rw [getLsbD_mergeBits, hm]
  by_cases h : P
  · simp only [h, decide_true, if_true, data_bit_low s (hP h)]
  · simp only [h, decide_false, Bool.false_eq_true, if_false]

/-- Settles O17: the masks of the two legalizers, bit by bit. -/
theorem interruptRegistersWrite : Obligations.InterruptRegistersWrite := by
  have low {l : List Nat} {Q : Prop} {n : Nat} (hl : ∀ k ∈ l, k < 32) : n ∈ l ∨ (n ∈ [0, 4, 8] ∧ Q) → n < 32 := by
    rintro (h | ⟨h, -⟩)
    · exact hl n h
    · revert n; decide
  refine ⟨by unfold words; decide, fun s hf => ⟨⟨_, exec_writeInstr_running hf .mip rfl rfl, fun n hn => ?_⟩,
    ⟨_, exec_writeInstr_running hf .mie rfl rfl, fun n hn => ?_⟩⟩⟩
  · exact getLsbD_mergeData s s.mip (getLsbD_mipWritable (hasU s) (hasN s) hn) (low (by decide))
  · exact getLsbD_mergeData s s.mie (getLsbD_mieWritable (hasU s) (hasN s) hn) (low (by decide))

/-! ### mtvec and stvec (41_machine_csrs.md R245) -/

theorem tvecMode_not_reserved_iff (v : Word) : v &&& 0b11 = 0b00 ∨ v &&& 0b11 = 0b01 ↔ v.getLsbD 1 = false := by
  rw [and_three_eq_iff v 0b00 (by decide), and_three_eq_iff v 0b01 (by decide)]
  cases v.getLsbD 0 <;> cases v.getLsbD 1 <;> decide

/-- Modes 2 and 3 are reserved: bit 1 of the requested mode decides. -/
theorem getLsbD_legalizeTvec (old v : Word) {n : Nat} (hn : n < 64) :
    (legalizeTvec old v).getLsbD n = if n < 2 ∧ v.getLsbD 1 = true then old.getLsbD n else v.getLsbD n := by
  have hmask : ∀ n < 64, (0b11 : Word).getLsbD n = decide (n < 2) := by decide
  rw [legalizeTvec, if_congr (tvecMode_not_reserved_iff v) rfl rfl]
  cases h : v.getLsbD 1
  · simp
  · simp only [Bool.true_eq_false, if_false, getLsbD_mergeBits, hmask n hn, decide_eq_true_eq, and_true]

/-- Settles O19: both registers take the data but for a reserved mode. -/
theorem trapVectorsWrite : Obligations.TrapVectorsWrite := by
  refine ⟨by unfold words; decide, fun s hf => ?_⟩
  have write := @exec_writeInstr_running s hf
  have bits (old : Word) (n : Nat) (hn : n < 64) : (legalizeTvec old (s.port.data s.params.xlen)).getLsbD n =
      if n < 2 ∧ s.port.wdata.getLsbD 1 = true then old.getLsbD n else (data s).getLsbD n := by
    rw [getLsbD_legalizeTvec _ _ hn, data_bit_low s (by decide), data_eq]
  exact ⟨⟨_, write .mtvec rfl rfl, bits s.mtvec⟩, ⟨_, write .stvec rfl rfl, bits s.stvec⟩⟩

/-! ### mepc and sepc (41_machine_csrs.md R252, R253) -/

theorem getLsbD_legalizeXepc (hasC : Bool) (caps : Caps) (v : Word) {n : Nat} (hn : n < 64) :
    (legalizeXepc hasC caps v).getLsbD n =
      (decide (n ≠ 0) && (decide (n ≠ 1) || hasC || (caps.writableMisa && caps.rvcBoot)) && v.getLsbD n) := by
  have bit₀ : ∀ n < 64, (0b01 : Word).getLsbD n = decide (n = 0) := by decide
  have bits₀₁ : ∀ n < 64, (0b11 : Word).getLsbD n = decide (n = 0 ∨ n = 1) := by decide
  rw [legalizeXepc, Bool.or_assoc]
  cases hasC || (caps.writableMisa && caps.rvcBoot)
  · rw [if_neg Bool.false_ne_true, getLsbD_and_not, bits₀₁ n hn, Bool.and_comm]
    simp
  · rw [if_pos rfl, getLsbD_and_not, bit₀ n hn, Bool.and_comm]
    simp

/-- Settles O11: a read masks with pc_alignment_mask, a write clears what cannot become an address bit. -/
theorem exceptionPcReadAndWritten : Obligations.ExceptionPcReadAndWritten := by
  refine ⟨by unfold words; decide, fun s hf => ?_⟩
  have read := @exec_readInstr_running s hf
  have write := @exec_writeInstr_running s hf
  rw [← pcAlignmentMask_eq_pcMask]
  refine ⟨read .mepc rfl rfl, read .sepc rfl rfl, _, fun n hn => ?_, write .mepc rfl rfl, write .sepc rfl rfl⟩
  rw [getLsbD_legalizeXepc _ _ _ hn, Inputs.data, Xlen.getLsbD_trunc]
  ac_rfl

end Sys2Proof.Machine

namespace Sys2Proof.Machine

open Sys2Proof.Claims

/-! ### satp (41_machine_csrs.md R289) -/

theorem getField_eq_extractLsb' (v : Word) (F : Field) :
    getField v F = (v.extractLsb' F.lo F.width).setWidth 64 := by
  apply word_ext
  intro n hn
  rw [getLsbD_getField, BitVec.getLsbD_setWidth, BitVec.getLsbD_extractLsb', decide_eq_true hn, Bool.true_and]

theorem satpMode_eq_iff (v : Word) {k : Nat} (hk : k < 16) :
    getField v ⟨63, 60⟩ = BitVec.ofNat 64 k ↔ (v.extractLsb' 60 4).toNat = k := by
  have hmode : (getField v ⟨63, 60⟩).toNat = (v.extractLsb' 60 4).toNat := by
    rw [getField_eq_extractLsb']
    exact BitVec.toNat_setWidth_of_le (by decide)
  rw [← BitVec.toNat_inj, hmode, BitVec.toNat_ofNat, Nat.mod_eq_of_lt (by omega)]

/-- The modes a 64-bit satp takes: Bare, Sv39 and Sv48. -/
abbrev SatpModeRecognized (arch : Architecture) (haveSv48 : Bool) (v : Word) : Prop :=
  let mode := (v.extractLsb' 60 4).toNat
  mode = 0 ∨ (mode = 8 ∧ arch = .rv64) ∨ (mode = 9 ∧ arch = .rv64 ∧ haveSv48 = true)

theorem legalizeSatp64_eq (arch : Architecture) (haveSv48 : Bool) (old v : Word) :
    legalizeSatp64 arch haveSv48 old v = if SatpModeRecognized arch haveSv48 v then v else old := by
  have bare : getField v ⟨63, 60⟩ = 0 ↔ _ := satpMode_eq_iff v (k := 0) (by decide)
  have sv39 : getField v ⟨63, 60⟩ = 8 ↔ _ := satpMode_eq_iff v (k := 8) (by decide)
  have sv48 : getField v ⟨63, 60⟩ = 9 ↔ _ := satpMode_eq_iff v (k := 9) (by decide)
  refine if_congr ?_ rfl rfl
  simp only [Bool.or_eq_true, Bool.and_eq_true, decide_eq_true_eq, bare, sv39, sv48, or_assoc, and_assoc]

theorem architectureCode_eq (s : State) : architectureCode s = (archBits s).setWidth 64 := by
  unfold architectureCode archBits
  cases s.params.xlen <;> cases s.curPrivilege
  case rv32.machine => exact getField_eq_extractLsb' s.misa ⟨31, 30⟩
  case rv32.supervisor => rfl
  case rv32.user => rfl
  case rv64.machine => exact getField_eq_extractLsb' s.misa ⟨63, 62⟩
  case rv64.supervisor => exact getField_eq_extractLsb' s.mstatus ⟨35, 34⟩
  case rv64.user => exact getField_eq_extractLsb' s.mstatus ⟨33, 32⟩

/-- Code 0 names no architecture, and code 2 alone names RV64. -/
theorem currentArchitecture_cases (s : State) :
    (archBits s = 0 ∧ currentArchitecture s = none) ∨
      (archBits s ≠ 0 ∧ ∃ a, currentArchitecture s = some a ∧ (a = .rv64 ↔ archBits s = 2)) := by
  rw [currentArchitecture, architectureCode_eq]
  obtain ⟨k, hk, h⟩ := exists_eq_ofNat (archBits s)
  rw [h]
  interval_cases k
  · exact .inl ⟨rfl, rfl⟩
  · exact .inr ⟨by decide, .rv32, rfl, by decide⟩
  · exact .inr ⟨by decide, .rv64, rfl, by decide⟩
  · exact .inr ⟨by decide, .rv128, rfl, by decide⟩

theorem writeSatp_rv32 {s : State} (hx : s.params.xlen = .rv32) :
    writeSatp s.port s = { s with satp := lo32 s.port.wdata, out := .ok none } := by
  simp only [writeSatp, hx, lo32_eq_lowHalf]
  rfl

theorem writeSatp_rv64_of_none {s : State} (hx : s.params.xlen = .rv64) (ha : currentArchitecture s = none) :
    writeSatp s.port s = s.fail .invalidArch := by
  simp only [writeSatp, hx, ha]

theorem writeSatp_rv64_of_some {s : State} {a : Architecture} (hx : s.params.xlen = .rv64)
    (ha : currentArchitecture s = some a) :
    writeSatp s.port s =
      { s with satp := legalizeSatp64 a s.params.haveSv48 s.satp s.port.wdata, out := .ok none } := by
  simp only [writeSatp, hx, ha, Inputs.data, trunc_rv64]
  rfl

/-- Settles O21: at XLEN=64 the architecture of the current privilege decides which modes are recognized. -/
theorem satpWrite : Obligations.SatpWrite := by
  refine ⟨by unfold words; decide, fun s hf => ?_⟩
  have write := @exec_writeInstr_running s hf .satp rfl
  refine ⟨fun hx => write (writeSatp_rv32 hx), fun hx => ?_⟩
  dsimp only
  rcases currentArchitecture_cases s with ⟨h0, ha⟩ | ⟨h0, a, ha, hrv64⟩
  · exact ⟨fun _ => write (writeSatp_rv64_of_none hx ha), fun h => absurd h0 h, fun h => absurd h0 h⟩
  · have hwrite := write (writeSatp_rv64_of_some hx ha)
    rw [legalizeSatp64_eq] at hwrite
    simp only [SatpModeRecognized, hrv64] at hwrite
    refine ⟨fun h => absurd h h0, fun _ hrec => ?_, fun _ hrec => ?_⟩
    · rwa [if_pos hrec] at hwrite
    · rwa [if_neg hrec] at hwrite

/-! ### Legalizing twice (41_machine_csrs.md R231) -/

theorem misaBitTaken_legalizeMisa {caps : Caps} {nextPc v : Word} {n : Nat} (h : MisaBitTaken caps nextPc v n)
    (old : Word) : MisaBitTaken caps nextPc (legalizeMisa caps nextPc old v) n := by
  have taken {k : Nat} (hk : MisaBitTaken caps nextPc v k) :
      (legalizeMisa caps nextPc old v).getLsbD k = v.getLsbD k := by
    rw [getLsbD_legalizeMisa, if_pos hk]
  rcases h with ⟨rfl, hC⟩ | ⟨hn, hFD⟩
  · refine .inl ⟨rfl, ?_⟩
    rwa [mayWriteC, taken (.inl ⟨rfl, hC⟩)]
  · refine .inr ⟨hn, ?_⟩
    rwa [mayWriteFD, taken (.inr ⟨.inl rfl, hFD⟩), taken (.inr ⟨.inr rfl, hFD⟩)]

theorem legalizeMisa_idem (caps : Caps) (nextPc old v : Word) :
    legalizeMisa caps nextPc old (legalizeMisa caps nextPc old v) = legalizeMisa caps nextPc old v := by
  apply word_ext
  intro n _
  by_cases h : MisaBitTaken caps nextPc v n
  · rw [getLsbD_legalizeMisa, if_pos (misaBitTaken_legalizeMisa h old)]
  · rw [getLsbD_legalizeMisa, getLsbD_legalizeMisa, if_neg h, ite_self]

theorem legalizeMstatus_idem (x : Xlen) (hasN hasU : Bool) (old v : Word) :
    legalizeMstatus x hasN hasU old (legalizeMstatus x hasN hasU old v) = legalizeMstatus x hasN hasU old v := by
  have bits {n : Nat} (hn : n < 64) := getLsbD_legalizeMstatus x hasN hasU old v hn
  have low (k : Nat) (hk : k < 31) : (legalizeMstatus x hasN hasU old v).getLsbD k = _ :=
    (bits (by omega)).trans (if_neg (by have := half_le_bits x; omega))
  apply word_ext
  intro n hn
  rw [getLsbD_legalizeMstatus _ _ _ _ _ hn, bits hn]
  split
  · rw [low 13 (by decide), low 14 (by decide)]
    rfl
  next hsd => exact statusBitWritten_idem ((bits hn).trans (if_neg hsd))

theorem mergeBits_idem (wm old v : Word) : mergeBits wm old (mergeBits wm old v) = mergeBits wm old v := by
  apply word_ext
  intro n _
  rw [getLsbD_mergeBits, getLsbD_mergeBits]
  split <;> rfl

theorem and_mask_idem {w : Nat} (v k : BitVec w) : v &&& k &&& k = v &&& k := by
  rw [BitVec.and_assoc, BitVec.and_self]

/-- A 32-bit register legalized again from its value as a CSR. -/
theorem setWidth_and_mask_idem (v k : BitVec 32) : ((v &&& k).setWidth 64).setWidth 32 &&& k = v &&& k := by
  rw [BitVec.setWidth_setWidth_of_le _ (by decide), BitVec.setWidth_eq, and_mask_idem]

theorem legalizeTvec_idem (old v : Word) : legalizeTvec old (legalizeTvec old v) = legalizeTvec old v := by
  apply word_ext
  intro n hn
  have mode : (legalizeTvec old v).getLsbD 1 = true → v.getLsbD 1 = true := by
    rw [getLsbD_legalizeTvec _ _ (by decide)]
    split
    next h => exact fun _ => h.2
    next => exact id
  rw [getLsbD_legalizeTvec _ _ hn]
  split
  next h => rw [getLsbD_legalizeTvec _ _ hn, if_pos ⟨h.1, mode h.2⟩]
  next => rfl

theorem legalizeXepc_idem (hasC : Bool) (caps : Caps) (v : Word) :
    legalizeXepc hasC caps (legalizeXepc hasC caps v) = legalizeXepc hasC caps v := by
  unfold legalizeXepc
  split <;> exact and_mask_idem _ _

theorem legalizeSatp64_idem (arch : Architecture) (haveSv48 : Bool) (old v : Word) :
    legalizeSatp64 arch haveSv48 old (legalizeSatp64 arch haveSv48 old v) = legalizeSatp64 arch haveSv48 old v := by
  by_cases h : SatpModeRecognized arch haveSv48 v
  · have hv : legalizeSatp64 arch haveSv48 old v = v := (legalizeSatp64_eq ..).trans (if_pos h)
    rw [hv, hv]
  · have hv : legalizeSatp64 arch haveSv48 old v = old := (legalizeSatp64_eq ..).trans (if_neg h)
    rw [hv, legalizeSatp64_eq, ite_self]

/-- Settles O26: one lemma per shape of legalizer. -/
theorem legalizersIdempotent : Obligations.LegalizersIdempotent := fun x caps a b c nextPc old v =>
  ⟨legalizeMisa_idem caps nextPc old v, legalizeMstatus_idem x b c old v, mergeBits_idem _ old v,
    mergeBits_idem _ old v, and_mask_idem v _, and_mask_idem v _, legalizeTvec_idem old v, setWidth_and_mask_idem _ _,
    setWidth_and_mask_idem _ _, legalizeXepc_idem b caps v, legalizeSatp64_idem a b old v⟩

end Sys2Proof.Machine

namespace Sys2Proof.Machine

open Sys2Proof.Claims

/-! ### Reads of the views (42_views.md R301 to R309) -/

/-- Settles O13: each view reads as the machine-level register under its mask. -/
theorem viewsRead : Obligations.ViewsRead := by
  refine ⟨by unfold words; decide, fun s hf => ?_⟩
  have read := @exec_readInstr_running s hf
  have readSstatus {x : Xlen} (hx : s.params.xlen = x) : readCsr .sstatus s = lowerSstatus x s.mstatus := by
    rw [← hx]
    rfl
  exact ⟨fun hx => read .sstatus rfl (readSstatus hx), fun hx => read .sstatus rfl (readSstatus hx),
    read .sip rfl rfl, read .sie rfl rfl, read .sideleg rfl rfl, read .sedeleg rfl rfl⟩

/-! ### Writes of sstatus (42_views.md R302, R312) -/

theorem getLsbD_sstatusWriteMask {n : Nat} (hn : n < 64) :
    sstatusWriteMask.getLsbD n = decide (n ∈ [0, 1, 4, 5, 8, 13, 14, 15, 16, 18, 19]) := by
  revert n
  decide

/-- Settles O22: the fields of the write mask lie below bit 32, where the write data is wdata, and SD follows the FS and
XS written. -/
theorem sstatusWrite : Obligations.SstatusWrite := by
  refine ⟨by unfold words; decide, fun s hf => ⟨_, exec_writeInstr_running hf .sstatus rfl rfl, fun n hn => ?_⟩⟩
  have merged {k : Nat} (hk : k < 64) :
      (mergeBits sstatusWriteMask s.mstatus (s.port.data s.params.xlen)).getLsbD k =
        if k ∈ [0, 1, 4, 5, 8, 13, 14, 15, 16, 18, 19] then s.port.wdata.getLsbD k else s.mstatus.getLsbD k :=
    getLsbD_mergeData s s.mstatus (getLsbD_sstatusWriteMask hk) fun hmem => by revert k; decide
  rw [mstatusBitAfterSstatus, liftSstatus, getLsbD_withSd, isDirty_eq]
  refine if_congr Iff.rfl ?_ (merged hn)
  rw [merged (by decide), merged (by decide), merged (by decide), merged (by decide)]
  rfl

/-- A masked write of bits the register already holds. -/
theorem mergeBits_eq_self {wm old v : Word} (h : v &&& wm = old &&& wm) : mergeBits wm old v = old := by
  have hself : mergeBits wm old old = old := word_ext fun n _ => by rw [getLsbD_mergeBits, ite_self]
  rwa [mergeBits, h]

theorem withSd_eq_self {x : Xlen} {m : Word} (h : m.getLsbD (x.bits - 1) = dirty m) : withSd x m = m := by
  apply word_ext
  intro n _
  rw [getLsbD_withSd]
  split
  next hn => rw [hn, h, isDirty_eq_dirty]
  next => rfl

/-- R312: every field sstatus can write is one it shows. -/
theorem liftSstatus_lowerSstatus {x : Xlen} {m : Word} (h : m.getLsbD (x.bits - 1) = dirty m) :
    liftSstatus x m (x.trunc (lowerSstatus x m)) = m := by
  have shown : sstatusReadMask x &&& sstatusWriteMask = sstatusWriteMask := by cases x <;> decide
  have agree : x.trunc (lowerSstatus x m) &&& sstatusWriteMask = m &&& sstatusWriteMask := by
    rw [trunc_and (fits_of_within_low (by decide) x), lowerSstatus, BitVec.and_assoc, shown]
  rw [liftSstatus, mergeBits_eq_self agree, withSd_eq_self h]

/-- The write data is what a read of sstatus gave. -/
theorem writeSstatus_of_lowered {p : Inputs} {s : State}
    (hsd : s.mstatus.getLsbD (s.params.xlen.bits - 1) = dirty s.mstatus)
    (hw : p.wdata = lowerSstatus s.params.xlen s.mstatus) : writeSstatus p s = s.respond none := by
  rw [writeSstatus, Inputs.data, hw, liftSstatus_lowerSstatus hsd]

/-- Settles O25: the value read is the lowered mstatus, and lifting it gives mstatus back. -/
theorem sstatusRoundTrip : Obligations.SstatusRoundTrip := by
  intro s r v hf hsd hread hout
  obtain rfl : csrRead .sstatus s = r := Host.Outcome.next.inj ((exec_readInstr .sstatus s).symm.trans hread)
  have hv : v = lowerSstatus s.params.xlen s.mstatus := Option.some.inj (csrRead_of_ok hout)
  exact exec_writeInstr_running (s := { s with port := { s.port with wdata := v } }) hf .sstatus rfl
    (writeSstatus_of_lowered hsd hv)

/-! ### The delegated positions a write of a view reaches (42_views.md R304 to R310)

The supervisor positions, and the user positions where user interrupts exist, are the ones a write of mip reaches:
sie and sideleg reach those of them that are delegated, sip of these only the software interrupts, bits 1 and 0. -/

theorem sieWritable_eq (userInts : Bool) (mideleg : Word) :
    sieWritable userInts mideleg = mipWritable userInts &&& mideleg := by
  cases userInts
  · rfl
  · exact BitVec.and_or_distrib_right.symm

theorem sipWritable_eq (userInts : Bool) (mideleg : Word) :
    sipWritable userInts mideleg = mipWritable userInts &&& 0x003 &&& mideleg := by
  cases userInts
  · rfl
  · exact BitVec.and_or_distrib_right.symm

theorem getLsbD_and_delegated {P : Prop} [Decidable P] {k : Word} {n : Nat} (hk : k.getLsbD n = decide P)
    (deleg : Word) : (k &&& deleg).getLsbD n = decide (deleg.getLsbD n = true ∧ P) := by
  rw [BitVec.getLsbD_and, hk, Bool.decide_and, Bool.decide_eq_true, Bool.and_comm]

/-- A write of a view reaches the positions `P` of its register that are delegated. -/
theorem getLsbD_mergeDelegated {P : Prop} [Decidable P] {k : Word} {n : Nat} (hk : k.getLsbD n = decide P)
    (hP : P → n < 32) (s : State) (old deleg : Word) :
    (mergeBits (k &&& deleg) old (s.port.data s.params.xlen)).getLsbD n =
      if deleg.getLsbD n = true ∧ P then s.port.wdata.getLsbD n else old.getLsbD n :=
  getLsbD_mergeData s old (getLsbD_and_delegated hk deleg) fun h => hP h.2

/-- A write of a delegation register's view can only clear a bit: where the bit is 0 it is not delegated. -/
theorem getLsbD_mergeDelegated_self {P : Prop} [Decidable P] {k : Word} {n : Nat} (hk : k.getLsbD n = decide P)
    (hP : P → n < 32) (s : State) (deleg : Word) :
    (mergeBits (k &&& deleg) deleg (s.port.data s.params.xlen)).getLsbD n =
      if P then deleg.getLsbD n && s.port.wdata.getLsbD n else deleg.getLsbD n := by
  rw [getLsbD_mergeDelegated hk hP]
  cases deleg.getLsbD n <;> simp

theorem getLsbD_userSupervisorPositions (hasU hasN : Bool) {n : Nat} (hn : n < 64) :
    (mipWritable (hasU && hasN)).getLsbD n =
      decide (n ∈ [1, 5, 9] ∨ (n ∈ [0, 4, 8] ∧ hasN = true ∧ hasU = true)) := by
  rw [getLsbD_mipWritable hasU hasN hn]
  simp only [and_comm]

theorem getLsbD_softwarePositions (hasU hasN : Bool) {n : Nat} (hn : n < 64) :
    (mipWritable (hasU && hasN) &&& 0x003).getLsbD n = decide (n = 1 ∨ (n = 0 ∧ hasN = true ∧ hasU = true)) := by
  cases hasU <;> cases hasN <;> revert n <;> decide

theorem getLsbD_exceptionPositions {n : Nat} (hn : n < 64) : (0x1FF : Word).getLsbD n = decide (n < 9) := by
  revert n
  decide

/-- Settles O23: the mask of each view is its positions under the delegation register, all below bit 32. -/
theorem delegatedViewsWrite : Obligations.DelegatedViewsWrite := by
  refine ⟨by unfold words; decide, fun s hf => ?_⟩
  have write := @exec_writeInstr_running s hf
  have positions {n : Nat} (hn : n < 64) := getLsbD_userSupervisorPositions (hasU s) (hasN s) hn
  have low {n : Nat} {Q : Prop} : n ∈ [1, 5, 9] ∨ (n ∈ [0, 4, 8] ∧ Q) → n < 32 := by
    simp only [List.mem_cons, List.not_mem_nil, or_false]
    omega
  refine ⟨⟨_, write .sip rfl rfl, fun n hn => ?_⟩, ⟨_, write .sie rfl rfl, fun n hn => ?_⟩,
    ⟨_, write .sideleg rfl rfl, fun n hn => ?_⟩, ⟨_, write .sedeleg rfl rfl, fun n hn => ?_⟩⟩
  · rw [liftSip, sipWritable_eq]
    exact getLsbD_mergeDelegated (getLsbD_softwarePositions (hasU s) (hasN s) hn) (by omega) s s.mip s.mideleg
  · rw [liftSie, sieWritable_eq]
    exact getLsbD_mergeDelegated (positions hn) low s s.mie s.mideleg
  · exact getLsbD_mergeDelegated_self (positions hn) low s s.mideleg
  · exact getLsbD_mergeDelegated_self (getLsbD_exceptionPositions hn) (by omega) s s.medeleg

/-! ### What a write of a view leaves (42_views.md R311) -/

theorem within_userSupervisorPositions (userInts : Bool) : Within 0x333 (mipWritable userInts) := by
  cases userInts <;> decide

/-- A CSR write that merges, into the register `get`, delegated positions among `p`: from any state it leaves the
undelegated bits and the other positions, for a write that is refused or halted leaves the register. -/
theorem exec_writeInstr_sameOutside {c : Csr} {s t : State} {get : State → Word} {k p deleg v : Word}
    (h : exec c.writeInstr s = .next t) (hget : ∀ r, get { s with out := r } = get s) (hk : Within p k)
    (hw : get (writeCsr c s.port s) = mergeBits (k &&& deleg) (get s) v) :
    SameOutside deleg (get t) (get s) ∧ SameOutside p (get t) (get s) := by
  obtain rfl : csrWrite c s.port s = t := Host.Outcome.next.inj ((exec_writeInstr c s).symm.trans h)
  rcases csrWrite_cases c s.port s with answers | ⟨-, -, written⟩
  · rw [answers.frame, hget]
    exact ⟨.refl _ _, .refl _ _⟩
  · rw [written, hw]
    exact ⟨sameOutside_mergeBits (within_and deleg k) _ v, sameOutside_mergeBits (hk.and_right deleg) _ v⟩

/-- Off its own bits a word has none. -/
theorem SameOutside.within_old {u v : Word} (h : SameOutside v u v) : Within v u :=
  h.within (BitVec.and_not_self v) (BitVec.and_not_self v)

/-- Settles O24: each lift is a write within delegated positions. -/
theorem undelegatedBitsKept : Obligations.UndelegatedBitsKept := by
  intro s t
  have positions := within_userSupervisorPositions (haveUserInterrupts s)
  refine ⟨fun h => ?_, fun h => ?_, fun h => ?_, fun h => ?_⟩
  · exact exec_writeInstr_sameOutside (c := .sip) (get := State.mip) h (fun _ => rfl) (within_and 0x003 _)
      (congrArg (mergeBits · s.mip _) (sipWritable_eq _ s.mideleg))
  · exact exec_writeInstr_sameOutside (c := .sie) (get := State.mie) h (fun _ => rfl) positions
      (congrArg (mergeBits · s.mie _) (sieWritable_eq _ s.mideleg))
  · have kept := exec_writeInstr_sameOutside (c := .sideleg) (get := State.mideleg) (deleg := s.mideleg) h
      (fun _ => rfl) positions rfl
    exact kept.imp_left SameOutside.within_old
  · have kept := exec_writeInstr_sameOutside (c := .sedeleg) (get := State.medeleg) (deleg := s.medeleg) h
      (fun _ => rfl) (BitVec.and_not_self 0x1FF) rfl
    exact kept.imp_left SameOutside.within_old

end Sys2Proof.Machine

namespace Sys2Proof

open Sys2Proof.Claims

/-! ### The codes of the levels and the widths (00_scope.md R12) -/

theorem Privilege.code_eq_levelOf (p : Privilege) : p.code = BitVec.ofNat 64 (levelOf p) := by
  cases p <;> rfl

/-- Of the two-bit codes only 2 names no privilege (43_resolvers.md R340). -/
theorem Privilege.exists_of_two_bits {b : BitVec 2} (hb : b ≠ 0b10) :
    ∃ p, Privilege.ofCode (b.setWidth 64) = some p ∧ p.code = b.setWidth 64 := by
  obtain ⟨k, hk, rfl⟩ := exists_eq_ofNat b
  interval_cases k
  · exact ⟨.user, rfl, rfl⟩
  · exact ⟨.supervisor, rfl, rfl⟩
  · exact absurd rfl hb
  · exact ⟨.machine, rfl, rfl⟩

theorem Xlen.arch_code (x : Xlen) : x.arch.code = xlenCode x := by
  cases x <;> rfl

theorem Architecture.code_of_ofCode {c : Word} {a : Architecture} (h : Architecture.ofCode c = some a) :
    a.code = c := by
  unfold Architecture.ofCode at h
  split_ifs at h with hc hc hc
  all_goals
    cases h
    exact hc.symm

end Sys2Proof

namespace Sys2Proof.Machine

open Sys2Proof.Claims

/-! ### EFF_PRIV (43_resolvers.md R340, R341) -/

theorem mppPrivilege_eq (s : State) :
    mppPrivilege s = Privilege.ofCode ((s.mstatus.extractLsb' 11 2).setWidth 64) :=
  congrArg Privilege.ofCode (getField_eq_extractLsb' s.mstatus Mstatus.mpp)

theorem mppPrivilege_of_reserved {s : State} (h : s.mstatus.extractLsb' 11 2 = 0b10) : mppPrivilege s = none := by
  rw [mppPrivilege_eq, h]
  rfl

theorem mppPrivilege_of_not_reserved {s : State} (h : s.mstatus.extractLsb' 11 2 ≠ 0b10) :
    ∃ p, mppPrivilege s = some p ∧ p.code = (s.mstatus.extractLsb' 11 2).setWidth 64 := by
  rw [mppPrivilege_eq]
  exact Privilege.exists_of_two_bits h

theorem effectivePrivilege_execute (s : State) : effectivePrivilege .execute s = some s.curPrivilege := rfl

theorem effectivePrivilege_of_mprv_clear (k : AccessKind) {s : State} (h : s.mstatus.getLsbD 17 = false) :
    effectivePrivilege k s = some s.curPrivilege := by
  have hmprv : ¬ getField s.mstatus Mstatus.mprv = 1 := by
    rw [Mstatus.mprv, getField_bit_eq_one, h]
    decide
  exact if_neg fun hk => hmprv hk.2

theorem effectivePrivilege_of_mprv_set {k : AccessKind} (hk : k ≠ .execute) {s : State}
    (h : s.mstatus.getLsbD 17 = true) : effectivePrivilege k s = mppPrivilege s :=
  if_pos ⟨hk, (getField_bit_eq_one s.mstatus 17).2 h⟩

/-- The three data kinds of EFF_PRIV. -/
theorem exec_effPriv_data {i : Instr} (hi : i ∈ [Instr.effPrivRead, .effPrivWrite, .effPrivReadWrite]) (s : State) :
    ∃ k, k ≠ AccessKind.execute ∧ exec i s = .next (effPriv k s) := by
  simp only [List.mem_cons, List.not_mem_nil, or_false] at hi
  obtain rfl | rfl | rfl := hi
  · exact ⟨.read, by decide, rfl⟩
  · exact ⟨.write, by decide, rfl⟩
  · exact ⟨.readWrite, by decide, rfl⟩

section Running

variable {s : State} (hf : s.faulted = false)
include hf

theorem effPriv_of_some {k : AccessKind} {p : Privilege} (h : effectivePrivilege k s = some p) :
    effPriv k s = { s with out := .ok (some p.code) } := by
  rw [effPriv, State.command_running hf, h]
  rfl

theorem effPriv_of_none {k : AccessKind} (h : effectivePrivilege k s = none) :
    effPriv k s = { s with faulted := true, out := .fault .invalidPrivilege } := by
  rw [effPriv, State.command_running hf, h]
  rfl

theorem effPriv_current {k : AccessKind} (h : effectivePrivilege k s = some s.curPrivilege) :
    effPriv k s = { s with out := .ok (some (BitVec.ofNat 64 (levelOf s.curPrivilege))) } := by
  rw [effPriv_of_some hf h, Privilege.code_eq_levelOf]

end Running

/-- Settles O34: a fetch and a clear MPRV give the current privilege, a set MPRV the one MPP names. -/
theorem Resolvers.effectivePrivilege : Obligations.EffectivePrivilege := by
  refine ⟨by unfold words; decide, fun s hf => ⟨?_, fun i hi => ?_⟩⟩
  · exact congrArg _ (effPriv_current hf (effectivePrivilege_execute s))
  · obtain ⟨k, hk, hexec⟩ := exec_effPriv_data hi s
    rw [hexec]
    refine ⟨fun hclear => ?_, fun hset hmpp => ?_, fun hset hmpp => ?_⟩
    · exact congrArg _ (effPriv_current hf (effectivePrivilege_of_mprv_clear k hclear))
    · obtain ⟨p, hp, hcode⟩ := mppPrivilege_of_not_reserved hmpp
      rw [effPriv_of_some hf ((effectivePrivilege_of_mprv_set hk hset).trans hp), hcode]
    · have hnone := (effectivePrivilege_of_mprv_set hk hset).trans (mppPrivilege_of_reserved hmpp)
      rw [effPriv_of_none hf hnone]

end Sys2Proof.Machine

namespace Sys2Proof.Machine

open Sys2Proof.Claims

/-! ### CUR_ARCH (43_resolvers.md R342 to R344) -/

/-- In a legal state MXL, SXL and UXL all hold the code of XLEN (10_state.md R35, R40). -/
theorem State.Legal.architectureCode_eq_arch {s : State} (h : s.Legal) :
    architectureCode s = s.params.xlen.arch.code := by
  have hmxl : getField s.misa (Misa.mxl s.params.xlen) = s.params.xlen.arch.code := by
    have hmisa := (misaLegal_iff s.params s.misa).1 h.misa
    rw [hmisa.getField_eq (by cases s.params.xlen <;> decide), fixedMisa,
      getField_setField_same (by cases s.params.xlen <;> decide)]
    cases s.params.xlen <;> decide
  unfold architectureCode
  split
  · exact hmxl
  · exact h.mstatus.sxl
  · exact h.mstatus.uxl

theorem currentArchitecture_of_legal {s : State} (h : s.Legal) :
    currentArchitecture s = some s.params.xlen.arch := by
  rw [currentArchitecture, h.architectureCode_eq_arch]
  cases s.params.xlen <;> rfl

section Running

variable {s : State} (hf : s.faulted = false)
include hf

theorem curArch_of_some {a : Architecture} (h : currentArchitecture s = some a) :
    curArch s = { s with out := .ok (some a.code) } := by
  rw [curArch, State.command_running hf, h]
  rfl

theorem curArch_of_none (h : currentArchitecture s = none) :
    curArch s = { s with faulted := true, out := .fault .invalidArch } := by
  rw [curArch, State.command_running hf, h]
  rfl

end Running

/-- Settles O35: a width named by the governing code has that code, and a legal state holds the code of XLEN. -/
theorem Resolvers.currentArchitecture : Obligations.CurrentArchitecture := by
  refine ⟨by unfold words; decide, fun s hf => ?_⟩
  rw [show exec .curArch s = .next (curArch s) from rfl]
  refine ⟨fun h => ?_, fun h => ?_, fun hlegal => ?_⟩
  · obtain ⟨h0, -⟩ | ⟨-, a, ha, -⟩ := currentArchitecture_cases s
    · exact absurd h0 h
    · rw [curArch_of_some hf ha, Architecture.code_of_ofCode ha, architectureCode_eq]
  · obtain ⟨-, hnone⟩ | ⟨h0, -⟩ := currentArchitecture_cases s
    · rw [curArch_of_none hf hnone]
    · exact absurd h h0
  · rw [curArch_of_some hf (currentArchitecture_of_legal hlegal), Xlen.arch_code]

end Sys2Proof.Machine

namespace Sys2Proof.Machine

open Sys2Proof.Claims

/-! ### TVEC_ADDR (43_resolvers.md R345 to R347) -/

/-- The base of a trap vector, by its bits 63:2. -/
theorem tvecBase_eq (v : Word) : v &&& ~~~0b11 = v.extractLsb' 2 62 ++ 0#2 := by
  apply word_ext
  intro n hn
  have mode : (0b11 : Word).getLsbD n = decide (n < 2) := by revert n; decide
  rw [getLsbD_and_not, mode, BitVec.getLsbD_append]
  by_cases h : n < 2
  · simp [h]
  · have : n - 2 < 62 := by omega
    simp [h, this, Nat.add_sub_cancel' (Nat.le_of_not_lt h)]

theorem and_three_eq_extractLsb' (v : Word) : v &&& 0b11 = (v.extractLsb' 0 2).setWidth 64 := by
  have hmode := getField_eq_extractLsb' v ⟨1, 0⟩
  rwa [getField, BitVec.ushiftRight_zero] at hmode

/-- The Interrupt bit of a cause (10_state.md R49). -/
theorem and_topBit_eq_zero_iff (x : Xlen) (c : Word) : c &&& x.topBit = 0 ↔ c.getLsbD (x.bits - 1) = false := by
  constructor
  · intro h
    simpa [Xlen.getLsbD_topBit] using congrArg (fun v : Word => v.getLsbD (x.bits - 1)) h
  · intro h
    apply word_ext
    intro n _
    rw [BitVec.getLsbD_and, Xlen.getLsbD_topBit]
    by_cases hn : n = x.bits - 1
    · simp [hn, h]
    · simp [hn]

/-- Four times the cause code, which is every bit of a cause below the Interrupt bit. -/
theorem causeCode_shifted (x : Xlen) (c : Word) :
    getField c ⟨x.bits - 2, 0⟩ <<< 2 = 4 * (c.setWidth (x.bits - 1)).setWidth 64 := by
  have hcode : getField c ⟨x.bits - 2, 0⟩ = (c.setWidth (x.bits - 1)).setWidth 64 := by
    cases x <;> exact getField_eq_extractLsb' c _
  rw [hcode, BitVec.shiftLeft_eq_mul_twoPow, BitVec.mul_comm]
  rfl

theorem tvecAddr_eq_target (x : Xlen) (tvec cause : Word) : tvecAddr x tvec cause = target x tvec cause := by
  simp only [tvecAddr, target, tvecBase_eq, and_three_eq_extractLsb', causeCode_shifted, and_topBit_eq_zero_iff,
    low_eq_trunc]
  obtain ⟨k, hk, hmode⟩ := exists_eq_ofNat (tvec.extractLsb' 0 2)
  rw [hmode]
  interval_cases k
  · rfl
  · cases cause.getLsbD (x.bits - 1) <;> rfl
  · rfl
  · rfl

/-- Settles O36: both queries answer tvec_addr of their level's trap registers. -/
theorem trapVectorQueries : Obligations.TrapVectorQueries := by
  refine ⟨by unfold words; decide, fun s hf => ?_⟩
  rw [← tvecAddr_eq_target, ← tvecAddr_eq_target]
  exact ⟨congrArg _ (State.command_running hf _), congrArg _ (State.command_running hf _)⟩

end Sys2Proof.Machine

namespace Sys2Proof.Machine

open Sys2Proof.Claims

/-! ### Reads, queries and checks change no register (20_memory.md R103, 43_resolvers.md R350) -/

theorem exec_intReadInstr (r : IntReg) (s : State) : exec r.readInstr s = .next (intRead r s) := by
  cases r <;> rfl

/-- What runs to a state that only answers leaves all but the response. -/
theorem frame_of_exec_answers {i : Instr} {s t u : State} (hu : Answers s u) (hexec : exec i s = .next u)
    (h : exec i s = .next t) : t = { s with out := t.out } := by
  obtain rfl : u = t := Host.Outcome.next.inj (hexec.symm.trans h)
  exact hu.frame

theorem csrWriteInstr_not_query (c : Csr) : c.writeInstr ∉ queries := by cases c <;> decide

theorem intWriteInstr_not_query (r : IntReg) : r.writeInstr ∉ queries := by cases r <;> decide

/-- A query answers, or it is EFF_PRIV or CUR_ARCH and halts the block. -/
theorem CommandEffect.of_query {i : Instr} {s t : State} (h : CommandEffect s i t) (hi : i ∈ queries) :
    Answers s t ∨
      (i ∈ [Instr.effPrivRead, .effPrivWrite, .effPrivReadWrite, .curArch] ∧ ∃ r, t = s.fail r) := by
  cases h with
  | answers h => exact .inl h
  | effPrivFails hk => exact .inr ⟨List.mem_append_left [Instr.curArch] hk, _, rfl⟩
  | curArchFails => exact .inr ⟨by decide, _, rfl⟩
  | csrWrite c => exact absurd hi (csrWriteInstr_not_query c)
  | rawWrite c => exact absurd hi (by simp [queries])
  | intWrite r => exact absurd hi (intWriteInstr_not_query r)
  | retire | trapException | trapInterrupt | machineReturn | supervisorReturn | reset => exact absurd hi (by decide)

theorem channel_of_query {i : Instr} (hi : i ∈ queries) : i.channel = .command := by
  revert i
  decide

/-- Settles O42: reads and checks only answer, and a query that does not answer fails. -/
theorem readsAndQueriesWriteNothing : Obligations.ReadsAndQueriesWriteNothing := by
  refine fun s t => ⟨fun c => ?_, fun r => ?_, fun addr => ?_, fun addr => ?_, fun i hi h => ?_⟩
  · exact frame_of_exec_answers (csrRead_answers c s) (exec_readInstr c s)
  · exact frame_of_exec_answers (intRead_answers r s) (exec_intReadInstr r s)
  · exact frame_of_exec_answers (rawRead_answers addr s) rfl
  · rintro (h | h)
    · exact frame_of_exec_answers (accessCheck_answers false addr s) rfl h
    · exact frame_of_exec_answers (accessCheck_answers true addr s) rfl h
  · rcases (commandEffect (channel_of_query hi) h).of_query hi with hans | ⟨hmem, r, rfl⟩
    · rw [hans.frame]
      exact ⟨rfl, fun _ => rfl⟩
    · exact ⟨rfl, fun hn => absurd hmem hn⟩

end Sys2Proof.Machine

namespace Sys2Proof.Machine

open Sys2Proof.Claims

/-! ### RETIRE (44_counters.md R371) -/

theorem add_one_eq_ofNat_mod (v : Word) : v + 1 = BitVec.ofNat 64 ((v.toNat + 1) % 2 ^ 64) := by
  apply BitVec.eq_of_toNat_eq
  rw [BitVec.toNat_add, BitVec.toNat_ofNat, Nat.mod_mod]
  rfl

section Running

variable {s : State} (hf : s.faulted = false)

include hf

theorem retireInstruction_of_written (hw : s.minstretWritten = true) :
    retireInstruction s = { s with minstretWritten := false, out := .ok none } := by
  rw [retireInstruction_running hf, if_pos hw]

theorem retireInstruction_of_not_written (hw : s.minstretWritten = false) :
    retireInstruction s = { s with minstret := s.minstret + 1, out := .ok none } := by
  rw [retireInstruction_running hf, if_neg (by rw [hw]; decide), ← hw]

end Running

/-- Settles O38: RETIRE runs to one of two states by the flag, and the count is modulo 2^64. -/
theorem retireCounts : Obligations.RetireCounts := by
  refine ⟨by unfold words; decide, fun s hf => ⟨fun hw => ?_, fun hw => ?_⟩⟩
  · exact congrArg _ (retireInstruction_of_written hf hw)
  · rw [← add_one_eq_ofNat_mod]
    exact congrArg _ (retireInstruction_of_not_written hf hw)

/-! ### Which commands change the counters (44_counters.md R372, R373) -/

/-- `t` holds the counters and the flag of an explicit write as `s` does. -/
structure KeepsCounters (s t : State) : Prop where
  minstret : t.minstret = s.minstret
  minstretWritten : t.minstretWritten = s.minstretWritten
  mcycle : t.mcycle = s.mcycle
  mtime : t.mtime = s.mtime

/-- `i` may take `s` to `t` as far as R372 and R373 go: each of the counters and the flag changes only under a command
these rules list for it. -/
structure CountersChangeBy (i : Instr) (s t : State) : Prop where
  instret : touchesInstret i = false → t.minstret = s.minstret ∧ t.minstretWritten = s.minstretWritten
  flag : setsInstretFlag i = false → t.minstretWritten = true → s.minstretWritten = true
  mcycle : touchesMcycle i = false → t.mcycle = s.mcycle
  mtime : touchesMtime i = false → t.mtime = s.mtime

theorem KeepsCounters.countersChangeBy {s t : State} (h : KeepsCounters s t) (i : Instr) : CountersChangeBy i s t where
  instret _ := ⟨h.minstret, h.minstretWritten⟩
  flag _ ht := h.minstretWritten ▸ ht
  mcycle _ := h.mcycle
  mtime _ := h.mtime

theorem Answers.keepsCounters {s t : State} (h : Answers s t) : KeepsCounters s t := by
  rw [h.frame]
  exact ⟨rfl, rfl, rfl, rfl⟩

theorem State.fail_keepsCounters (s : State) (r : FaultReason) : KeepsCounters s (s.fail r) := ⟨rfl, rfl, rfl, rfl⟩

theorem trapEnter_keepsCounters (interrupt : Bool) (code tval epc : Word) (s : State) :
    KeepsCounters s (trapEnter interrupt code tval epc s) := by
  rcases trapEnter_cases interrupt code tval epc s with h | h | ⟨-, _, -, h⟩ | ⟨-, _, -, h⟩
  · exact h.keepsCounters
  all_goals rw [h]; exact ⟨rfl, rfl, rfl, rfl⟩

theorem machineReturn_keepsCounters (s : State) : KeepsCounters s (machineReturn s) := by
  rcases machineReturn_cases s with h | h | ⟨_, -, -, h⟩
  · exact h.keepsCounters
  all_goals rw [h]; exact ⟨rfl, rfl, rfl, rfl⟩

theorem supervisorReturn_keepsCounters (s : State) : KeepsCounters s (supervisorReturn s) := by
  rcases supervisorReturn_cases s with h | ⟨-, h⟩
  · exact h.keepsCounters
  · rw [h]
    exact ⟨rfl, rfl, rfl, rfl⟩

/-- A CSR write changes a counter through its own number or, at XLEN = 32, its high half's; it sets the flag with
minstret only. -/
theorem writeCsr_countersChangeBy (c : Csr) (p : Inputs) (s : State) :
    CountersChangeBy c.writeInstr s (writeCsr c p s) := by
  have other (h : touchesInstret c.writeInstr = false) : ¬(c = .minstret ∨ c = .minstreth) := by
    rintro (rfl | rfl) <;> cases h
  rw [writeCsr_frame]
  exact {
    instret := fun h => ⟨if_neg (other h), if_neg (other h)⟩
    flag := fun h ht => by
      rw [← ht]
      exact (if_neg (by rintro (rfl | rfl) <;> cases h)).symm
    mcycle := fun h => if_neg (by rintro (rfl | rfl) <;> cases h)
    mtime := fun _ => rfl }

/-- A raw write changes a counter through its own number or its high half's, and never the flag. -/
theorem rawCommit_countersChangeBy (c : Csr) (m d : Word) (s : State) :
    CountersChangeBy (.rawWrite c.addr) s ((rawCommit c m d s).respond none) := by
  rw [rawCommit_frame]
  exact {
    instret := fun h => ⟨if_neg (by rintro (rfl | rfl) <;> cases h), rfl⟩
    flag := fun _ ht => ht
    mcycle := fun h => if_neg (by rintro (rfl | rfl) <;> cases h)
    mtime := fun _ => rfl }

/-- An internal write changes the register its selector names. -/
theorem intWrite_countersChangeBy (r : IntReg) (p : Inputs) (s : State) :
    CountersChangeBy r.writeInstr s (intWrite r p s) := by
  rw [intWrite_frame]
  exact {
    instret := fun h => ⟨if_neg (by rintro rfl; cases h), if_neg (by rintro rfl; cases h)⟩
    flag := fun h ht => by
      rw [← ht]
      exact (if_neg (by rintro rfl; cases h)).symm
    mcycle := fun h => if_neg (by rintro rfl; cases h)
    mtime := fun h => if_neg (by rintro rfl; cases h) }

theorem retireInstruction_countersChangeBy (s : State) : CountersChangeBy .retire s (retireInstruction s) := by
  rcases retireInstruction_cases s with h | ⟨-, h⟩
  · exact h.keepsCounters.countersChangeBy _
  · rw [h]
    exact ⟨nofun, nofun, fun _ => rfl, fun _ => rfl⟩

/-- RESET may change every counter, and clears the flag. -/
theorem resetCommand_countersChangeBy (p : Inputs) (s : State) : CountersChangeBy .reset s (resetCommand p s) := by
  rcases resetCommand_cases p s with h | ⟨-, h⟩
  · exact h.keepsCounters.countersChangeBy _
  · rw [h]
    exact ⟨nofun, nofun, nofun, nofun⟩

/-- Each effect a command can have changes the counters only as R372 and R373 list. -/
theorem CommandEffect.countersChangeBy {i : Instr} {s t : State} (h : CommandEffect s i t) : CountersChangeBy i s t := by
  cases h with
  | answers h => exact h.keepsCounters.countersChangeBy i
  | effPrivFails => exact (s.fail_keepsCounters _).countersChangeBy i
  | curArchFails => exact (s.fail_keepsCounters _).countersChangeBy _
  | csrWrite c => exact writeCsr_countersChangeBy c s.port s
  | rawWrite c => exact rawCommit_countersChangeBy c _ _ s
  | intWrite r => exact intWrite_countersChangeBy r s.port s
  | retire => exact retireInstruction_countersChangeBy s
  | trapException | trapInterrupt => exact (trapEnter_keepsCounters _ _ _ _ s).countersChangeBy _
  | machineReturn => exact (machineReturn_keepsCounters s).countersChangeBy _
  | supervisorReturn => exact (supervisorReturn_keepsCounters s).countersChangeBy _
  | reset => exact resetCommand_countersChangeBy s.port s

/-- Settles O39: every effect of a command of the block keeps to the two lists. -/
theorem countersChangeOnlyBy : Obligations.CountersChangeOnlyBy := fun _ _ _ hc h =>
  have ⟨instret, flag, mcycle, mtime⟩ := (commandEffect hc h).countersChangeBy
  ⟨instret, flag, mcycle, mtime⟩

end Sys2Proof.Machine

namespace Sys2Proof.Machine

open Sys2Proof.Claims

/-! ### The raw port (45_host_ports.md R400 to R403) -/

/-- R130 assigns a register's number at either XLEN, but for the upper halves of the counters. -/
theorem assignedAt_of_not_high {c : Csr} (hc : c.isHigh = false) (x : Xlen) : c.assignedAt x = true := by
  rw [Csr.assignedAt, hc]
  rfl

theorem assignedAt_rv32 (c : Csr) {x : Xlen} (hx : x = .rv32) : c.assignedAt x = true := by
  rw [Csr.assignedAt, hx]
  exact congrArg not (Bool.and_false _)

theorem mask_eq (s : State) : mask s = s.port.mask s.params.xlen := low_eq_trunc _ _

section Running

variable {s : State} (hf : s.faulted = false)
include hf

theorem exec_rawRead_running (c : Csr) (ha : c.assignedAt s.params.xlen = true) (hv : c.isView = false) {v : Word}
    (hval : rawValue c s = v) : exec (.rawRead c.addr) s = .next { s with out := .ok (some v) } := by
  rw [← hval]
  exact congrArg _ (rawRead_running hf ha hv)

theorem exec_rawWrite_running (c : Csr) (ha : c.assignedAt s.params.xlen = true) (hv : c.isView = false)
    (hr : c.isReadOnly = false) {t : State}
    (ht : (rawCommit c (s.port.mask s.params.xlen) (s.port.data s.params.xlen) s).respond none = t) :
    exec (.rawWrite c.addr) s = .next t := by
  rw [← ht]
  exact congrArg _ (rawWrite_running s.port hf ha hv hr)

theorem rawRead_view {c : Csr} (hv : c.isView = true) (hc : c.isHigh = false) :
    rawRead c.addr s = s.reject .notStorage := by
  simp [rawRead, State.command_running hf, assignedAt_of_not_high hc, hv]

theorem rawWrite_view {c : Csr} (hv : c.isView = true) (hc : c.isHigh = false) (p : Inputs) :
    rawWrite c.addr p s = s.reject .notStorage := by
  simp [rawWrite, State.command_running hf, assignedAt_of_not_high hc, hv]

theorem rawWrite_readOnly {c : Csr} (hr : c.isReadOnly = true) (hv : c.isView = false) (hc : c.isHigh = false)
    (p : Inputs) : rawWrite c.addr p s = s.reject .readOnly := by
  simp [rawWrite, State.command_running hf, assignedAt_of_not_high hc, hv, hr]

end Running

/-- Settles O27: the raw value of a register is its stored field, of a counter at XLEN=32 the half its number names. -/
theorem rawReads : Obligations.RawReads := by
  intro s hf
  have read := @exec_rawRead_running s hf
  refine ⟨read .mstatus rfl rfl rfl, read .misa rfl rfl rfl, read .medeleg rfl rfl rfl, read .mideleg rfl rfl rfl,
    read .mie rfl rfl rfl, read .mtvec rfl rfl rfl, read .mcounteren rfl rfl rfl, read .mcountinhibit rfl rfl rfl,
    read .mscratch rfl rfl rfl, read .mepc rfl rfl rfl, read .mcause rfl rfl rfl, read .mtval rfl rfl rfl,
    read .mip rfl rfl rfl, read .stvec rfl rfl rfl, read .scounteren rfl rfl rfl, read .sscratch rfl rfl rfl,
    read .sepc rfl rfl rfl, read .scause rfl rfl rfl, read .stval rfl rfl rfl, read .satp rfl rfl rfl,
    read .tselect rfl rfl rfl, read .mvendorid rfl rfl rfl, read .marchid rfl rfl rfl, read .mimpid rfl rfl rfl,
    read .mhartid rfl rfl rfl, fun hx => ?_, fun hx => ?_⟩
  · have whole (c : Word) : counterLow s.params.xlen c = c := by rw [hx]; rfl
    exact ⟨read .mcycle rfl rfl (whole _), read .minstret rfl rfl (whole _)⟩
  · have low (c : Word) : counterLow s.params.xlen c = lo32 c := by rw [hx, lo32_eq_lowHalf]; rfl
    exact ⟨read .mcycle rfl rfl (low _), read .minstret rfl rfl (low _),
      read .mcycleh (assignedAt_rv32 _ hx) rfl (hi32_eq_highHalf _).symm,
      read .minstreth (assignedAt_rv32 _ hx) rfl (hi32_eq_highHalf _).symm⟩

/-- The numbers of the views name views (30_encoding.md R132). -/
theorem exists_view_of_mem {addr : BitVec 12} (h : addr ∈ viewNumbers) :
    ∃ c : Csr, c.addr = addr ∧ c.isView = true ∧ c.isHigh = false := by
  simp only [viewNumbers, List.mem_cons, List.not_mem_nil, or_false] at h
  obtain rfl | rfl | rfl | rfl | rfl := h
  · exact ⟨.sstatus, rfl, rfl, rfl⟩
  · exact ⟨.sedeleg, rfl, rfl, rfl⟩
  · exact ⟨.sideleg, rfl, rfl, rfl⟩
  · exact ⟨.sie, rfl, rfl, rfl⟩
  · exact ⟨.sip, rfl, rfl, rfl⟩

theorem exists_readOnly_of_mem {addr : BitVec 12} (h : addr ∈ readOnlyNumbers) :
    ∃ c : Csr, c.addr = addr ∧ c.isReadOnly = true ∧ c.isView = false ∧ c.isHigh = false := by
  simp only [readOnlyNumbers, List.mem_cons, List.not_mem_nil, or_false] at h
  obtain rfl | rfl | rfl | rfl := h
  · exact ⟨.mvendorid, rfl, rfl, rfl, rfl⟩
  · exact ⟨.marchid, rfl, rfl, rfl, rfl⟩
  · exact ⟨.mimpid, rfl, rfl, rfl, rfl⟩
  · exact ⟨.mhartid, rfl, rfl, rfl, rfl⟩

/-- Settles O28: the raw port asks for the number first, then for storage, then for a writable register. -/
theorem rawRefusals : Obligations.RawRefusals := by
  refine fun s addr hf => ⟨fun ha => ?_, fun hview => ?_, fun hro => ?_⟩
  · exact ⟨congrArg _ (rawRead_unassigned hf ha), congrArg _ (rawWrite_unassigned hf ha s.port)⟩
  · obtain ⟨c, rfl, hv, hc⟩ := exists_view_of_mem hview
    exact ⟨congrArg _ (rawRead_view hf hv hc), congrArg _ (rawWrite_view hf hv hc s.port)⟩
  · obtain ⟨c, rfl, hr, hv, hc⟩ := exists_readOnly_of_mem hro
    exact congrArg _ (rawWrite_readOnly hf hr hv hc s.port)

theorem mergeBits_no_bits (old v : Word) : mergeBits 0 old v = old :=
  mergeBits_eq_self (BitVec.and_zero.trans BitVec.and_zero.symm)

/-- A register whose raw mask is empty keeps its value. -/
theorem rawMerge_of_no_bits {x : Xlen} {c : Csr} (hc : rawMask x c = 0) (old m d : Word) :
    rawMerge x c old m d = old := by
  rw [rawMerge, hc]
  exact (congrArg (mergeBits · old d) BitVec.and_zero).trans (mergeBits_no_bits old d)

/-- Settles O29: a raw write merges under the write mask and RAWMASK, which for the plain registers is every bit. -/
theorem rawWritesMasked : Obligations.RawWritesMasked := by
  intro s hf
  have write := @exec_rawWrite_running s hf
  have hmisa : rawCommit .misa (s.port.mask s.params.xlen) (s.port.data s.params.xlen) s = s := by
    simp only [rawCommit, rawMerge_of_no_bits (x := s.params.xlen) (c := .misa) rfl]
  have allBits : s.port.mask s.params.xlen &&& ~~~0 = s.port.mask s.params.xlen &&& s.params.xlen.ones :=
    BitVec.and_allOnes.trans (Within.and_eq (fits_trunc _ _)).symm
  rw [mask_eq, data_eq]
  dsimp only
  rw [allBits]
  exact ⟨write .misa rfl rfl rfl (congrArg (State.respond · none) hmisa), write .mip rfl rfl rfl rfl,
    write .mie rfl rfl rfl rfl, write .mideleg rfl rfl rfl rfl, write .medeleg rfl rfl rfl rfl,
    write .mtvec rfl rfl rfl rfl, write .stvec rfl rfl rfl rfl, write .mcause rfl rfl rfl rfl,
    write .scause rfl rfl rfl rfl, write .mtval rfl rfl rfl rfl, write .stval rfl rfl rfl rfl,
    write .mscratch rfl rfl rfl rfl, write .sscratch rfl rfl rfl rfl, write .mepc rfl rfl rfl rfl,
    write .sepc rfl rfl rfl rfl, write .tselect rfl rfl rfl rfl, write .satp rfl rfl rfl rfl,
    write .mcounteren rfl rfl rfl rfl, write .scounteren rfl rfl rfl rfl, write .mcountinhibit rfl rfl rfl rfl⟩

theorem mask_bit_low (s : State) {n : Nat} (hn : n < 32) :
    (s.port.mask s.params.xlen).getLsbD n = s.port.wmask.getLsbD n := by
  have hlt : n < s.params.xlen.bits := lt_of_lt_of_le hn (half_le_bits _)
  rw [Inputs.mask, Xlen.getLsbD_trunc, decide_eq_true hlt, Bool.true_and]

/-- The fields of mstatus a raw write reaches (45_host_ports.md R401). -/
def rawStatusBits : List Nat := [0, 1, 3, 4, 5, 7, 8, 11, 12, 13, 14, 15, 16, 17, 18, 19, 20, 21, 22]

theorem getLsbD_rawMask_mstatus (x : Xlen) {n : Nat} (hn : n < 64) :
    (rawMask x .mstatus).getLsbD n = decide (n ∈ rawStatusBits) := by
  simp only [rawMask]
  revert n
  decide

/-- Bit n of mstatus after a raw write, but for SD. -/
theorem getLsbD_rawMerge_mstatus (s : State) {n : Nat} (hn : n < 64) :
    (rawMerge s.params.xlen .mstatus s.mstatus (s.port.mask s.params.xlen) (s.port.data s.params.xlen)).getLsbD n =
      if n ∈ rawStatusBits then
        if s.port.wmask.getLsbD n then s.port.wdata.getLsbD n else s.mstatus.getLsbD n
      else s.mstatus.getLsbD n := by
  rw [rawMerge, getLsbD_mergeBits, BitVec.getLsbD_and, getLsbD_rawMask_mstatus _ hn]
  by_cases h : n ∈ rawStatusBits
  · have hlow : n < 32 := by revert n; decide
    simp only [h, decide_true, Bool.and_true, if_true, mask_bit_low s hlow, data_bit_low s hlow]
  · simp only [h, decide_false, Bool.and_false, Bool.false_eq_true, if_false]

/-- Settles O30: the fields merge bit by bit, and SD follows the FS and XS they leave. -/
theorem rawWriteOfStatus : Obligations.RawWriteOfStatus := by
  refine fun s hf => ⟨_, exec_rawWrite_running hf .mstatus rfl rfl rfl rfl, fun n hn => ?_⟩
  have merged {k : Nat} (hk : k < 64) := getLsbD_rawMerge_mstatus s hk
  change (withSd _ _).getLsbD n = _
  rw [mstatusBitAfterRaw, getLsbD_withSd, isDirty_eq]
  refine if_congr Iff.rfl ?_ (merged hn)
  rw [merged (by decide), merged (by decide), merged (by decide), merged (by decide)]
  rfl

/-! ### Raw writes of the counters (45_host_ports.md R403) -/

/-- Bits hi-1:lo of a counter, merged with the low bits of the write data under the write mask. -/
def mergedCounterBit (s : State) (old : Word) (lo hi n : Nat) : Bool :=
  if lo ≤ n ∧ n < hi ∧ s.port.wmask.getLsbD (n - lo) = true then s.port.wdata.getLsbD (n - lo) else old.getLsbD n

theorem getLsbD_rawCounterLow (s : State) (old : Word) {n : Nat} (hn : n < 64) :
    (rawCounterLow s.params.xlen old (s.port.mask s.params.xlen) (s.port.data s.params.xlen)).getLsbD n =
      mergedCounterBit s old 0 s.params.xlen.bits n := by
  unfold mergedCounterBit rawCounterLow
  cases hx : s.params.xlen
  · have low := hx ▸ @mask_bit_low s
    have low' := hx ▸ @data_bit_low s
    dsimp only
    rw [getLsbD_joinHalves]
    by_cases h : n < 32
    · simp [h, low, low', Xlen.bits]
    · simp [h, hn, Xlen.bits, show 32 + (n - 32) = n by omega]
  · simp only [Inputs.mask, Inputs.data, trunc_rv64, getLsbD_mergeBits, Nat.zero_le, true_and, Xlen.bits, hn,
      Nat.sub_zero]

theorem getLsbD_rawCounterHigh (s : State) (old : Word) {n : Nat} (hn : n < 64) :
    (rawCounterHigh old (s.port.mask s.params.xlen) (s.port.data s.params.xlen)).getLsbD n =
      mergedCounterBit s old 32 64 n := by
  unfold mergedCounterBit rawCounterHigh
  rw [getLsbD_joinHalves]
  by_cases h : n < 32
  · simp [h, show ¬ 32 ≤ n by omega]
  · have hlow : n - 32 < 32 := by omega
    simp [h, hn, hlow, mask_bit_low, data_bit_low, show 32 ≤ n by omega, show 32 + (n - 32) = n by omega]

/-- Settles O31: each number merges the half of the counter it names, and at XLEN=64 the base number all of it. -/
theorem rawWritesOfCounters : Obligations.RawWritesOfCounters := by
  intro s hf
  have write := @exec_rawWrite_running s hf
  refine ⟨⟨_, write .mcycle rfl rfl rfl rfl, fun _ => getLsbD_rawCounterLow s s.mcycle⟩,
    ⟨_, write .minstret rfl rfl rfl rfl, fun _ => getLsbD_rawCounterLow s s.minstret⟩, fun hx => ?_⟩
  exact ⟨⟨_, write .mcycleh (assignedAt_rv32 _ hx) rfl rfl rfl, fun _ => getLsbD_rawCounterHigh s s.mcycle⟩,
    ⟨_, write .minstreth (assignedAt_rv32 _ hx) rfl rfl rfl, fun _ => getLsbD_rawCounterHigh s s.minstret⟩⟩

end Sys2Proof.Machine

namespace Sys2Proof

open Sys2Proof.Claims

/-- The two-bit code of a level names it, and 2 names none (00_scope.md R12). -/
theorem Privilege.ofCode_of_levelOf {b : BitVec 2} {p : Privilege} (h : b.toNat = levelOf p) :
    Privilege.ofCode (b.setWidth 64) = some p := by
  obtain rfl : b = BitVec.ofNat 2 (levelOf p) := by
    rw [← h]
    exact (BitVec.ofNat_toNat 2 b).symm
  cases p <;> rfl

theorem Privilege.toNat_code (p : Privilege) : p.code.toNat = levelOf p := by cases p <;> rfl

end Sys2Proof

namespace Sys2Proof.Machine

open Sys2Proof.Claims

/-! ### The internal port (45_host_ports.md R405, R406) -/

theorem decodeOp_intRead_reserved {sel : BitVec 12} (h : 5 < sel.toNat) :
    decodeOp 0x4 0 sel = .error .reservedEncoding := by
  have hsel : IntReg.ofSel sel = none := by
    simpa [h] using IntReg.isSome_ofSel sel
  show lookedUp ((IntReg.ofSel sel).map IntReg.readInstr) = .error .reservedEncoding
  rw [hsel]
  rfl

theorem writeCurPrivilege_of_some {d : Word} {p : Privilege}
    (h : Privilege.ofCode ((d.extractLsb' 0 2).setWidth 64) = some p) (s : State) :
    writeCurPrivilege d s = { s with curPrivilege := p, out := .ok none } := by
  rw [writeCurPrivilege, and_three_eq_extractLsb', h]
  rfl

theorem writeCurPrivilege_of_none {d : Word} (h : Privilege.ofCode ((d.extractLsb' 0 2).setWidth 64) = none)
    (s : State) : writeCurPrivilege d s = { s with out := .rejected .badValue } := by
  rw [writeCurPrivilege, and_three_eq_extractLsb', h]
  rfl

section Running

variable {s : State} (hf : s.faulted = false)
include hf

theorem exec_intReadInstr_running (r : IntReg) {v : Word} (hv : internalValue r s = v) :
    exec r.readInstr s = .next { s with out := .ok (some v) } := by
  rw [exec_intReadInstr, intRead, State.command_running hf, hv]
  rfl

end Running

/-- Settles O32: each selector of R131 reads its register, and a larger one names none. -/
theorem internalReads : Obligations.InternalReads := by
  refine ⟨by unfold words; decide, fun sel hsel => ?_, fun s hf => ?_⟩
  · exact (decodeCommand_cmdWord 0x4 0 sel).trans (decodeOp_intRead_reserved hsel)
  · have read := @exec_intReadInstr_running s hf
    exact ⟨read .curPrivilege (Privilege.code_eq_levelOf _), read .curInst rfl, read .minstretWritten rfl,
      read .mtime rfl, read .mcycle rfl, read .minstret rfl⟩

/-- Settles O33: cur_privilege takes the level its code names, and every other register the data. -/
theorem internalWrites : Obligations.InternalWrites := by
  refine ⟨by unfold words; decide, fun s hf => ?_⟩
  have run := State.command_running hf
  rw [data_eq]
  refine ⟨fun p hp => ?_, fun h2 => ?_, congrArg _ (run _), congrArg _ (run _), congrArg _ (run _), congrArg _ (run _),
    congrArg _ (run _)⟩
  · exact congrArg _ ((run _).trans (writeCurPrivilege_of_some (Privilege.ofCode_of_levelOf hp) s))
  · have hcode : s.port.wdata.extractLsb' 0 2 = 0b10 := BitVec.eq_of_toNat_eq h2
    exact congrArg _ ((run _).trans (writeCurPrivilege_of_none (by rw [hcode]; rfl) s))

end Sys2Proof.Machine

namespace Sys2Proof.Machine

open Sys2Proof.Claims

/-! ### ACCESS_CHECK (45_host_ports.md R420) -/

theorem assignedAddr_eq_decide (x : Xlen) (addr : BitVec 12) :
    assignedAddr x addr = decide (addr ∈ assignedNumbers x) := by
  rw [Bool.eq_iff_iff, decide_eq_true_iff, mem_assignedNumbers_iff]

theorem csrReadOnlyRange_eq (addr : BitVec 12) :
    csrReadOnlyRange addr = decide ((addr.extractLsb' 10 2).toNat = 3) :=
  decide_eq_decide.2 BitVec.toNat_inj.symm

/-- The conditions of R420, each by the fields it names. -/
theorem accessAllowed_eq_mayAccess (w : Bool) (addr : BitVec 12) (s : State) :
    accessAllowed w addr s = mayAccess w addr s := by
  have htvm : decide (getField s.mstatus Mstatus.tvm = 1) = s.mstatus.getLsbD 20 := by
    rw [Bool.eq_iff_iff, decide_eq_true_iff]
    exact getField_bit_eq_one s.mstatus 20
  rw [accessAllowed, assignedAddr_eq_decide, Privilege.toNat_code, csrReadOnlyRange_eq, htvm]
  rfl

theorem accessCheck_running {s : State} (hf : s.faulted = false) (w : Bool) (addr : BitVec 12) :
    accessCheck w addr s = { s with out := .ok (some (answer (mayAccess w addr s))) } := by
  rw [accessCheck, State.command_running hf, accessAllowed_eq_mayAccess]
  rfl

/-- Settles O43: both forms answer the one test of R420. -/
theorem accessCheckAnswers : Obligations.AccessCheckAnswers := by
  refine ⟨fun addr => ⟨decodeCommand_cmdWord 0xC 0 addr, decodeCommand_cmdWord 0xC 1 addr⟩, fun s addr hf => ?_⟩
  exact ⟨congrArg _ (accessCheck_running hf false addr), congrArg _ (accessCheck_running hf true addr)⟩

end Sys2Proof.Machine

namespace Sys2Proof.Machine

open Sys2Proof.Claims

/-! ### mstatus after a trap or a return (45_host_ports.md R431 to R435)

Each of the four sets three fields other than FS and XS, and then derives SD. -/

theorem getLsbD_setBit (w v : Word) (k : Nat) {n : Nat} (hn : n < 64) :
    (setField w (.bit k) v).getLsbD n = if n = k then v.getLsbD 0 else w.getLsbD n := by
  rw [getLsbD_setField]
  by_cases h : n = k
  · simp [Field.bit, Field.width, h, h ▸ hn]
  · rw [if_neg h, if_neg]
    simp only [Field.bit, Field.width]
    omega

theorem getLsbD_setPair (w v : Word) (k : Nat) {n : Nat} (hn : n < 64) :
    (setField w ⟨k + 1, k⟩ v).getLsbD n =
      if n = k then v.getLsbD 0 else if n = k + 1 then v.getLsbD 1 else w.getLsbD n := by
  rw [getLsbD_setField]
  by_cases h₀ : n = k
  · simp [Field.width, h₀, h₀ ▸ hn]
  · by_cases h₁ : n = k + 1
    · simp [Field.width, h₁, h₁ ▸ hn]
    · rw [if_neg h₀, if_neg h₁, if_neg]
      simp only [Field.width]
      omega

theorem getLsbD_getBit (v : Word) (k : Nat) : (getField v (.bit k)).getLsbD 0 = v.getLsbD k :=
  getLsbD_getField v (.bit k) 0

theorem getLsbD_code (p : Privilege) {k : Nat} (hk : k < 2) : p.code.getLsbD k = codeBit p k := by
  cases p <;> revert k <;> decide

/-- `bit` says what `m'` holds after SD is derived, where `m'` has the FS and XS of `m`. -/
theorem getLsbD_withSd_of_bits {x : Xlen} {m m' : Word} {bit : Nat → Bool} (sd : bit (x.bits - 1) = dirty m)
    (context : ∀ k, 13 ≤ k → k ≤ 16 → bit k = m.getLsbD k)
    (fields : ∀ n < 64, n ≠ x.bits - 1 → m'.getLsbD n = bit n) {n : Nat} (hn : n < 64) :
    (withSd x m').getLsbD n = bit n := by
  have kept (k : Nat) (hlo : 13 ≤ k) (hhi : k ≤ 16) : m'.getLsbD k = m.getLsbD k := by
    have := half_le_bits x
    rw [fields k (by omega) (by omega), context k hlo hhi]
  rw [getLsbD_withSd]
  by_cases h : n = x.bits - 1
  · rw [if_pos h, h, sd, isDirty_eq, kept 13 (by decide) (by decide), kept 14 (by decide) (by decide),
      kept 15 (by decide) (by decide), kept 16 (by decide) (by decide)]
    rfl
  · rw [if_neg h, fields n hn h]

theorem getLsbD_machineTrapStatus (s : State) : ∀ n < 64,
    (machineTrapStatus s.params.xlen s.curPrivilege s.mstatus).getLsbD n = mstatusBitAfterMachineTrap s n := by
  have := half_le_bits s.params.xlen
  refine fun _ => getLsbD_withSd_of_bits (bit := mstatusBitAfterMachineTrap s) (m := s.mstatus) (if_pos rfl)
    (fun k _ _ => ?_) (fun n hn hsd => ?_)
  · grind [mstatusBitAfterMachineTrap]
  · rw [mstatusBitAfterMachineTrap, if_neg hsd, Mstatus.mpp, getLsbD_setPair _ _ _ hn, Mstatus.mie,
      getLsbD_setBit _ _ _ hn, Mstatus.mpie, getLsbD_setBit _ _ _ hn, getLsbD_getBit, getLsbD_code _ (by decide),
      getLsbD_code _ (by decide)]
    grind

theorem getLsbD_supervisorTrapStatus (s : State) : ∀ n < 64,
    (supervisorTrapStatus s.params.xlen s.curPrivilege s.mstatus).getLsbD n = mstatusBitAfterSupervisorTrap s n := by
  have := half_le_bits s.params.xlen
  have hspp : (if s.curPrivilege = .user then 0 else 1 : Word).getLsbD 0 = decide (s.curPrivilege ≠ .user) := by
    cases s.curPrivilege <;> rfl
  refine fun _ => getLsbD_withSd_of_bits (bit := mstatusBitAfterSupervisorTrap s) (m := s.mstatus) (if_pos rfl)
    (fun k _ _ => ?_) (fun n hn hsd => ?_)
  · grind [mstatusBitAfterSupervisorTrap]
  · rw [mstatusBitAfterSupervisorTrap, if_neg hsd, Mstatus.spp, getLsbD_setBit _ _ _ hn, Mstatus.sie,
      getLsbD_setBit _ _ _ hn, Mstatus.spie, getLsbD_setBit _ _ _ hn, getLsbD_getBit, hspp]
    grind

theorem getLsbD_mretStatus (s : State) : ∀ n < 64,
    (mretStatus s.params.xlen (haveU s) s.mstatus).getLsbD n = mstatusBitAfterMret s n := by
  have := half_le_bits s.params.xlen
  have hmpp {k : Nat} (hk : k < 2) :
      (if haveU s then Privilege.user.code else Privilege.machine.code).getLsbD k = !hasU s := by
    rw [show hasU s = haveU s from rfl]
    cases haveU s <;> revert k <;> decide
  refine fun _ => getLsbD_withSd_of_bits (bit := mstatusBitAfterMret s) (m := s.mstatus) (if_pos rfl)
    (fun k _ _ => ?_) (fun n hn hsd => ?_)
  · grind [mstatusBitAfterMret]
  · rw [mstatusBitAfterMret, if_neg hsd, Mstatus.mpp, getLsbD_setPair _ _ _ hn, Mstatus.mpie,
      getLsbD_setBit _ _ _ hn, Mstatus.mie, getLsbD_setBit _ _ _ hn, getLsbD_getBit, hmpp (by decide), hmpp (by decide)]
    grind

theorem getLsbD_sretStatus (s : State) : ∀ n < 64,
    (sretStatus s.params.xlen s.mstatus).getLsbD n = mstatusBitAfterSret s n := by
  have := half_le_bits s.params.xlen
  refine fun _ => getLsbD_withSd_of_bits (bit := mstatusBitAfterSret s) (m := s.mstatus) (if_pos rfl)
    (fun k _ _ => ?_) (fun n hn hsd => ?_)
  · grind [mstatusBitAfterSret]
  · rw [mstatusBitAfterSret, if_neg hsd, Mstatus.spp, getLsbD_setBit _ _ _ hn, Mstatus.spie,
      getLsbD_setBit _ _ _ hn, Mstatus.sie, getLsbD_setBit _ _ _ hn, getLsbD_getBit]
    grind

end Sys2Proof.Machine

namespace Sys2Proof.Machine

open Sys2Proof.Claims

/-! ### TRAP_ENTER (45_host_ports.md R430 to R433) -/

theorem causeValue_eq_causeOf (x : Xlen) (interrupt : Bool) (code : Word) :
    causeValue x interrupt code = causeOf x interrupt code := by
  cases x <;> rfl

theorem trapToSupervisor_data (interrupt : Bool) (s : State) :
    trapToSupervisor interrupt (data s) s = goesToSupervisor interrupt s :=
  Bool.and_assoc _ _ _

/-- A vector whose mode has bit 1 is reserved (10_state.md R48). -/
theorem target_of_reserved {tvec : Word} (h : tvec.getLsbD 1 = true) (x : Xlen) (cause : Word) :
    target x tvec cause = none := by
  have hmode : (tvec.extractLsb' 0 2).getLsbD 1 = true := by
    rw [BitVec.getLsbD_extractLsb', h]
    rfl
  unfold target
  obtain ⟨k, hk, e⟩ := exists_eq_ofNat (tvec.extractLsb' 0 2)
  rw [e] at hmode ⊢
  interval_cases k
  · cases hmode
  · cases hmode
  · rfl
  · rfl

/-- TRAP_ENTER takes its operands from the port, each at XLEN bits. -/
theorem exec_trapInstr (interrupt : Bool) (s : State) :
    exec (trapInstr interrupt) s =
      .next (trapEnter interrupt (data s) (low s.params.xlen s.port.tval) (low s.params.xlen s.port.epc) s) := by
  rw [data_eq, low_eq_trunc, low_eq_trunc]
  cases interrupt <;> rfl

section Running

variable {s : State} (hf : s.faulted = false) {interrupt : Bool} {code : Word}
include hf

theorem trapEnter_of_wide (hcode : 2 ^ (s.params.xlen.bits - 1) ≤ code.toNat) (tval epc : Word) :
    trapEnter interrupt code tval epc s = s.reject .badValue := by
  rw [trapEnter, State.command_running hf]
  exact if_pos hcode

variable (hcode : code.toNat < 2 ^ (s.params.xlen.bits - 1))
include hcode

theorem trapEnter_of_no_target
    (ht : target s.params.xlen (if trapToSupervisor interrupt code s then s.stvec else s.mtvec)
      (causeOf s.params.xlen interrupt code) = none) (tval epc : Word) :
    trapEnter interrupt code tval epc s = s.fail .noTrapTarget := by
  simp only [trapEnter, State.command_running hf, not_le.2 hcode, if_false, tvecAddr_eq_target, causeValue_eq_causeOf,
    ht]

theorem trapEnter_into_machine (hs : trapToSupervisor interrupt code s = false) {a : Word}
    (ht : target s.params.xlen s.mtvec (causeOf s.params.xlen interrupt code) = some a) (tval epc : Word) :
    trapEnter interrupt code tval epc s =
      (enterMachine (causeOf s.params.xlen interrupt code) tval epc s).respond (some a) := by
  simp only [trapEnter, State.command_running hf, not_le.2 hcode, if_false, hs, Bool.false_eq_true, tvecAddr_eq_target,
    causeValue_eq_causeOf, ht]

theorem trapEnter_into_supervisor (hs : trapToSupervisor interrupt code s = true) {a : Word}
    (ht : target s.params.xlen s.stvec (causeOf s.params.xlen interrupt code) = some a) (tval epc : Word) :
    trapEnter interrupt code tval epc s =
      (enterSupervisor (causeOf s.params.xlen interrupt code) tval epc s).respond (some a) := by
  simp only [trapEnter, State.command_running hf, not_le.2 hcode, if_false, hs, if_true, tvecAddr_eq_target,
    causeValue_eq_causeOf, ht]

end Running

/-- Settles O44: the trap commits at Machine level, and machineTrapStatus leaves the bits of R431. -/
theorem trapIntoMachine : Obligations.TrapIntoMachine := by
  intro s interrupt a hf hcode hs ht
  refine ⟨_, ?_, getLsbD_machineTrapStatus s⟩
  rw [exec_trapInstr, trapEnter_into_machine hf hcode ((trapToSupervisor_data interrupt s).trans hs) ht]
  rfl

/-- Settles O45: the trap commits at Supervisor level, and supervisorTrapStatus leaves the bits of R432. -/
theorem trapIntoSupervisor : Obligations.TrapIntoSupervisor := by
  intro s interrupt a hf hcode hs ht
  refine ⟨_, ?_, getLsbD_supervisorTrapStatus s⟩
  rw [exec_trapInstr, trapEnter_into_supervisor hf hcode ((trapToSupervisor_data interrupt s).trans hs) ht]
  rfl

/-- Settles O46: a wide code is refused first, and a vector with bit 1 of its mode set has no address. -/
theorem trapRefusals : Obligations.TrapRefusals := by
  refine fun s interrupt hf => ⟨fun hwide => ?_, fun hcode hreserved => ?_⟩
  · rw [exec_trapInstr, trapEnter_of_wide hf hwide]
    rfl
  · rw [← trapToSupervisor_data] at hreserved
    rw [exec_trapInstr, trapEnter_of_no_target hf hcode (target_of_reserved hreserved _ _)]
    rfl

/-! ### XRET (45_host_ports.md R434, R435) -/

theorem mppPrivilege_of_levelOf {s : State} {p : Privilege} (h : (s.mstatus.extractLsb' 11 2).toNat = levelOf p) :
    mppPrivilege s = some p := by
  rw [mppPrivilege_eq]
  exact Privilege.ofCode_of_levelOf h

theorem sretRefused_iff (s : State) :
    sretRefused s = true ↔
      s.curPrivilege = .user ∨ (s.curPrivilege = .supervisor ∧ s.mstatus.getLsbD 22 = true) := by
  have htsr : getField s.mstatus Mstatus.tsr = 1 ↔ _ := getField_bit_eq_one s.mstatus 22
  simp only [sretRefused, Bool.or_eq_true, Bool.and_eq_true, decide_eq_true_eq, htsr]

section Running

variable {s : State} (hf : s.faulted = false)
include hf

theorem machineReturn_below_machine (h : s.curPrivilege ≠ .machine) : machineReturn s = s.reject .privilege := by
  rw [machineReturn, State.command_running hf, if_pos h]

theorem machineReturn_of_none (h : s.curPrivilege = .machine) (hp : mppPrivilege s = none) :
    machineReturn s = s.fail .invalidPrivilege := by
  rw [machineReturn, State.command_running hf, if_neg (not_not.2 h), hp]

theorem machineReturn_of_some (h : s.curPrivilege = .machine) {p : Privilege} (hp : mppPrivilege s = some p) :
    machineReturn s =
      { s with
        mstatus := mretStatus s.params.xlen (haveU s) s.mstatus
        curPrivilege := p
        out := .ok (some (s.mepc &&& pcMask s.params.xlen (hasC s))) } := by
  rw [machineReturn, State.command_running hf, if_neg (not_not.2 h), hp, pcAlignmentMask_eq_pcMask]
  rfl

theorem supervisorReturn_of_refused (h : sretRefused s = true) : supervisorReturn s = s.reject .privilege := by
  rw [supervisorReturn, State.command_running hf, if_pos h]

theorem supervisorReturn_of_allowed (h : sretRefused s = false) :
    supervisorReturn s =
      { s with
        mstatus := sretStatus s.params.xlen s.mstatus
        curPrivilege := if s.mstatus.getLsbD 8 then .supervisor else .user
        out := .ok (some (s.sepc &&& pcMask s.params.xlen (hasC s))) } := by
  have hspp : getField s.mstatus Mstatus.spp = 1 ↔ _ := getField_bit_eq_one s.mstatus 8
  rw [supervisorReturn, State.command_running hf, h, pcAlignmentMask_eq_pcMask]
  simp only [hspp]
  rfl

end Running

/-- Settles O47: MRET by the current level, then by what MPP names. -/
theorem Returns.machineReturn : Obligations.MachineReturn := by
  refine ⟨by unfold words; decide, fun s hf => ⟨fun h => ?_, fun h hmpp => ?_, fun h p hp => ?_⟩⟩
  · exact congrArg _ (machineReturn_below_machine hf h)
  · exact congrArg _ (machineReturn_of_none hf h (mppPrivilege_of_reserved hmpp))
  · exact ⟨_, congrArg _ (machineReturn_of_some hf h (mppPrivilege_of_levelOf hp)), getLsbD_mretStatus s⟩

/-- Settles O48: SRET by the one test of R435. -/
theorem Returns.supervisorReturn : Obligations.SupervisorReturn := by
  refine ⟨by unfold words; decide, fun s hf => ⟨fun h => ?_, fun h => ?_⟩⟩
  · exact congrArg _ (supervisorReturn_of_refused hf ((sretRefused_iff s).2 h))
  · have hallowed := Bool.eq_false_iff.2 (mt (sretRefused_iff s).1 h)
    exact ⟨_, congrArg _ (supervisorReturn_of_allowed hf hallowed), getLsbD_sretStatus s⟩

end Sys2Proof.Machine

namespace Sys2Proof.Machine

open Sys2Proof.Claims

/-! ### The host's trap as TRAP_ENTER on the port (45_host_ports.md R436, R451) -/

theorem trunc_eq_self {x : Xlen} {v : Word} (h : Fits x v) : x.trunc v = v := Within.and_eq h

/-- The host's trap, with operands of XLEN bits, is TRAP_ENTER on the command port. -/
theorem hostTrap_eq_exec (interrupt : Bool) {s : State} (hpc : low s.params.xlen s.pc = s.pc) {code tval : Word}
    (hcode : Fits s.params.xlen code) (htval : Fits s.params.xlen tval) :
    ∃ u, exec (trapInstr interrupt) (drivenTrap s code tval) = .next u ∧
      hostTrap interrupt code tval s = trapped u s := by
  have hdata : data (drivenTrap s code tval) = code := (low_eq_trunc _ _).trans (trunc_eq_self hcode)
  have htval : low s.params.xlen tval = tval := (low_eq_trunc _ _).trans (trunc_eq_self htval)
  have hexec : exec (trapInstr interrupt) (drivenTrap s code tval) =
      .next (trapEnter interrupt (data (drivenTrap s code tval)) (low s.params.xlen tval) (low s.params.xlen s.pc)
        (drivenTrap s code tval)) := exec_trapInstr interrupt _
  rw [hdata, htval, hpc] at hexec
  exact ⟨_, hexec, hostTrap_eq_trapped interrupt code tval _ s⟩

/-- The response before a trap does not matter to it. -/
theorem trapEnter_withOut (interrupt : Bool) (code tval epc : Word) (o : Response) (s : State) :
    trapEnter interrupt code tval epc { s with out := o } = trapEnter interrupt code tval epc s := by
  have hs : trapToSupervisor interrupt code { s with out := o } = trapToSupervisor interrupt code s := rfl
  unfold trapEnter State.command
  dsimp only
  rw [hs]
  split
  · rfl
  · split
    · rfl
    · cases trapToSupervisor interrupt code s <;> split <;> rfl

theorem hostTrap_withOut (interrupt : Bool) (code tval : Word) (o : Response) (s : State) :
    hostTrap interrupt code tval { s with out := o } = hostTrap interrupt code tval s := by
  unfold hostTrap
  rw [trapEnter_withOut]

/-- IllegalInstr at the pc is TRAP_ENTER with code 2, whatever the last response was (60_exceptions.md R510). -/
theorem raiseIllegal_eq_trapped {s : State} (hpc : low s.params.xlen s.pc = s.pc) (word : BitVec 32) (o : Response) :
    ∃ u, exec .trapEnterException (drivenTrap s 2 (illegalTval s word)) = .next u ∧
      raiseIllegal word { s with out := o } = trapped u s := by
  obtain ⟨u, hu, htrap⟩ := raiseException_eq_trapped hpc 2 (illegalTval s word)
  rw [← raiseIllegal_eq_raiseException] at htrap
  exact ⟨u, hu, (hostTrap_withOut _ _ _ _ _).trans htrap⟩

/-- Settles O53: each is the host's trap, with a code and a trap value of XLEN bits. -/
theorem callAndBreakpointTrap : Obligations.CallAndBreakpointTrap := by
  intro s hf hpc
  have hcall : BitVec.ofNat 64 (8 + levelOf s.curPrivilege) = (envCall s.curPrivilege).code := by
    cases s.curPrivilege <;> rfl
  have hepc : Fits s.params.xlen s.pc := hpc ▸ low_eq_trunc _ _ ▸ fits_trunc _ _
  rw [hcall]
  constructor
  · obtain ⟨u, hu, htrap⟩ := hostTrap_eq_exec false hpc (fits_exceptionCode (envCall s.curPrivilege) _) (fits_zero _)
    exact ⟨u, hu, congrArg _ htrap⟩
  · obtain ⟨u, hu, htrap⟩ := hostTrap_eq_exec false hpc (fits_exceptionCode .breakpoint _) hepc
    exact ⟨u, hu, congrArg _ htrap⟩

/-! ### WFI (45_host_ports.md R436, R451; log 10) -/

theorem nextInstr_eq_nextPc (s : State) : nextInstr s = nextPc s := (low_eq_trunc _ _).symm

theorem finishAt_eq_retiredAt {s : State} (h : s.faulted = false) (a : Word) : finishAt a s = retiredAt s a :=
  finishAt_running h a

theorem wfiRefused_iff (s : State) :
    wfiRefused s = true ↔ s.mstatus.getLsbD 21 = true ∧ s.curPrivilege ≠ .machine := by
  have htw : getField s.mstatus Mstatus.tw = 1 ↔ _ := getField_bit_eq_one s.mstatus 21
  simp only [wfiRefused, Bool.and_eq_true, decide_eq_true_eq, htw]

/-- Settles O55: WFI retires unless TW refuses it. -/
theorem waitForInterrupt : Obligations.WaitForInterrupt := by
  intro s hf
  have hexec : exec .wfi s =
      .next (if wfiRefused s then raiseIllegal (encode .wfi) s else finishAt (nextInstr s) s) :=
    congrArg _ (State.command_running hf _)
  rw [hexec]
  refine ⟨fun h => ?_, fun hm htw hpc => ?_⟩
  · have hr : ¬ wfiRefused s = true := by
      rw [wfiRefused_iff]
      rintro ⟨htw, hm⟩
      rcases h with h | h
      · exact hm h
      · rw [h] at htw
        cases htw
    rw [if_neg hr, finishAt_eq_retiredAt hf, nextInstr_eq_nextPc]
  · obtain ⟨u, hu, htrap⟩ := raiseIllegal_eq_trapped hpc (encode .wfi) s.out
    rw [if_pos ((wfiRefused_iff s).2 ⟨htw, hm⟩)]
    exact ⟨u, hu, congrArg _ htrap⟩

/-! ### MRET and SRET (45_host_ports.md R451) -/

/-- What XRET leaves where it answers: it has not changed the block if it refused, and runs on if it returned. -/
structure ReturnOutcome (s u : State) : Prop where
  rejected : ∀ r, u.out = .rejected r → u = { s with out := .rejected r }
  running : ∀ d, u.out = .ok d → u.faulted = false

theorem Answers.returnOutcome {s u : State} (hf : s.faulted = false) (h : Answers s u) : ReturnOutcome s u := by
  refine ⟨fun r hr => ?_, fun _ _ => ?_⟩
  · rw [← hr]
    exact h.frame
  · rw [h.frame]
    exact hf

theorem machineReturn_outcome {s : State} (hf : s.faulted = false) : ReturnOutcome s (machineReturn s) := by
  rcases machineReturn_cases s with h | h | ⟨p, -, -, h⟩
  · exact h.returnOutcome hf
  · rw [h]
    exact ⟨nofun, nofun⟩
  · rw [h]
    exact ⟨nofun, fun _ _ => hf⟩

theorem supervisorReturn_outcome {s : State} (hf : s.faulted = false) : ReturnOutcome s (supervisorReturn s) := by
  rcases supervisorReturn_cases s with h | ⟨-, h⟩
  · exact h.returnOutcome hf
  · rw [h]
    exact ⟨nofun, fun _ _ => hf⟩

/-- A return instruction goes on from what its XRET left: it retires at the address returned, takes IllegalInstr, or
ends at a fault (log 11). -/
theorem ReturnOutcome.exec {s u : State} (h : ReturnOutcome s u) (hpc : low s.params.xlen s.pc = s.pc) {i : Instr}
    (hexec : exec i s = .next (onResponse (encode i) u finishAt)) :
    (∀ a, u.out = .ok (some a) → exec i s = .next (retiredAt u a)) ∧
    (∀ r, u.out = .rejected r →
      ∃ w, exec .trapEnterException (drivenTrap s 2 (illegalTval s (encode i))) = .next w ∧
        exec i s = .next (trapped w s)) ∧
    (∀ r, u.out = .fault r → exec i s = .next u) := by
  rw [hexec]
  refine ⟨fun a ha => ?_, fun r hr => ?_, fun r hr => ?_⟩
  · rw [onResponse_ok ha, finishAt_eq_retiredAt (h.running _ ha)]
    rfl
  · obtain ⟨w, hw, htrap⟩ := raiseIllegal_eq_trapped hpc (encode i) (.rejected r)
    refine ⟨w, hw, ?_⟩
    rw [onResponse_rejected hr, h.rejected r hr, htrap]
  · rw [onResponse_fault hr]

/-- Settles O54: what the instruction does is read off what its XRET answers. -/
theorem returnInstructions : Obligations.ReturnInstructions := by
  intro s hf hpc
  obtain ⟨mretRetires, mretTraps⟩ := (machineReturn_outcome hf).exec hpc (i := .mret) rfl
  obtain ⟨sretRetires, sretTraps⟩ := (supervisorReturn_outcome hf).exec hpc (i := .sret) rfl
  refine ⟨fun hm p hp => ?_, fun hu hs => ?_, fun ix hix => ?_⟩
  · have hreturn := machineReturn_of_some hf hm (mppPrivilege_of_levelOf hp)
    refine ⟨_, getLsbD_mretStatus s, ?_⟩
    rw [mretRetires _ (congrArg State.out hreturn), hreturn]
    rfl
  · have hallowed : sretRefused s = false := Bool.eq_false_iff.2 fun h => ((sretRefused_iff s).1 h).elim hu hs
    have hreturn := supervisorReturn_of_allowed hf hallowed
    refine ⟨_, getLsbD_sretStatus s, ?_⟩
    rw [sretRetires _ (congrArg State.out hreturn), hreturn]
    rfl
  · simp only [List.mem_cons, List.not_mem_nil, or_false] at hix
    obtain rfl | rfl := hix
    · exact ⟨_, rfl, mretRetires, mretTraps⟩
    · exact ⟨_, rfl, sretRetires, sretTraps⟩

/-! ### The host's look for an interrupt (60_exceptions.md R520) -/

theorem dueInterrupt_eq_highest (s : State) : dueInterrupt s = highestInterrupt (dueMask s) := by
  have hmie : getField s.mstatus Mstatus.mie = 1 ↔ _ := getField_bit_eq_one s.mstatus 3
  have hsie : getField s.mstatus Mstatus.sie = 1 ↔ _ := getField_bit_eq_one s.mstatus 1
  rw [dueMask, apply_ite highestInterrupt]
  simp only [dueInterrupt, Bool.or_eq_true, Bool.and_eq_true, decide_eq_true_eq, hmie, hsie]

/-- The host takes the open interrupt before which none in the priority order is open. -/
theorem dueInterrupt_eq_some_iff (s : State) (n : Nat) : dueInterrupt s = some n ↔ Due s n := by
  rw [dueInterrupt_eq_highest, highestInterrupt, List.find?_eq_some_iff_append]
  constructor
  · rintro ⟨hn, before, after, hlist, hbefore⟩
    exact ⟨before, after, hlist, hn, fun m hm => by simpa [bitOf] using hbefore m hm⟩
  · rintro ⟨before, after, hlist, hn, hbefore⟩
    exact ⟨hn, before, after, hlist, fun m hm => by simpa [bitOf] using hbefore m hm⟩

theorem step_of_interrupt {s : State} {p : Inputs} {rest : List Request} (hp : s.pending = .interrupt p :: rest) :
    step s = .next (pollInterrupt (s.load p rest)) := by
  simp only [step, hp]

theorem pollInterrupt_of_due {s : State} (hf : s.faulted = false) {n : Nat} (hn : dueInterrupt s = some n) :
    pollInterrupt s = hostTrap true (BitVec.ofNat 64 n) 0 s := by
  rw [pollInterrupt, State.command_running hf, hn]

theorem pollInterrupt_of_none {s : State} (hf : s.faulted = false) (hn : dueInterrupt s = none) :
    pollInterrupt s = s := by
  rw [pollInterrupt, State.command_running hf, hn]

/-- Settles O56: the poll takes the due interrupt by the host's trap, and else leaves the loaded state. -/
theorem interruptArbitration : Obligations.InterruptArbitration := by
  intro s p rest hp hf hpc
  have hstep := step_of_interrupt hp
  refine ⟨fun n hdue => ?_, fun hnone => ?_⟩
  · have hn : dueInterrupt (s.load p rest) = some n := (dueInterrupt_eq_some_iff _ n).2 hdue
    have hcode := fits_interruptCode (mem_interruptPriority_of_due hn) s.params.xlen
    obtain ⟨u, hu, htrap⟩ := hostTrap_eq_exec true (s := s.load p rest) hpc hcode (fits_zero _)
    refine ⟨u, hu, ?_⟩
    rw [hstep, pollInterrupt_of_due (s := s.load p rest) hf hn]
    exact congrArg _ htrap
  · have hn : dueInterrupt (s.load p rest) = none :=
      Option.eq_none_iff_forall_ne_some.2 fun n hn => hnone n ((dueInterrupt_eq_some_iff _ n).1 hn)
    rw [hstep, pollInterrupt_of_none (s := s.load p rest) hf hn]
    rfl

end Sys2Proof.Machine

namespace Sys2Proof.Machine

open Sys2Proof.Claims

/-! ### The access check that begins a CSR instruction (45_host_ports.md R445 to R450) -/

theorem assignedAt_of_mayAccess {w : Bool} {c : Csr} {s : State} (h : mayAccess w c.addr s = true) :
    c.assignedAt s.params.xlen = true := by
  rw [← accessAllowed_eq_mayAccess] at h
  simp only [accessAllowed, assignedAddr, Csr.ofAddr_addr, Bool.and_eq_true] at h
  obtain ⟨⟨⟨⟨hassigned, -⟩, -⟩, -⟩, -⟩ := h
  exact hassigned

theorem not_isReadOnly_of_mayAccess {c : Csr} {s : State} (h : mayAccess true c.addr s = true) :
    c.isReadOnly = false := by
  have hrange : c.isReadOnly = true → (c.addr.extractLsb' 10 2).toNat = 3 := by cases c <;> decide
  simp only [mayAccess, Bool.and_eq_true, Bool.true_and, Bool.not_eq_true', decide_eq_false_iff_not] at h
  obtain ⟨⟨⟨-, hwritable⟩, -⟩, -⟩ := h
  exact Bool.eq_false_iff.2 fun hr => hwritable (hrange hr)

section Running

variable {s : State} (hf : s.faulted = false)
include hf

theorem csrSwap_refused {csr : BitVec 12} (h : mayAccess true csr s = false) (word : BitVec 32) (rd : BitVec 5)
    (v : Word) : csrSwap word rd csr v s = raiseIllegal word { s with out := .ok (some 0) } := by
  rw [csrSwap, accessCheck_running hf, h]
  rfl

theorem csrModify_refused {w : Bool} {csr : BitVec 12} (h : mayAccess w csr s = false) (word : BitVec 32)
    (rd : BitVec 5) (f : Word → Word) :
    csrModify word rd csr w f s = raiseIllegal word { s with out := .ok (some 0) } := by
  rw [csrModify, accessCheck_running hf, h]
  rfl

end Running

/-- The instructions of csrModify, each with its own function of the old value. -/
theorem exec_eq_csrModify {csr : BitVec 12} {rd k : BitVec 5} {i : Instr}
    (hi : i ∈ [Instr.csrrs rd csr k, .csrrc rd csr k, .csrrsi rd csr k, .csrrci rd csr k]) (s : State) :
    ∃ f, exec i s = .next (csrModify (encode i) rd csr (decide (k ≠ 0)) f s) := by
  simp only [List.mem_cons, List.not_mem_nil, or_false] at hi
  obtain rfl | rfl | rfl | rfl := hi
  all_goals exact ⟨_, rfl⟩

/-- The instructions of csrSwap, each with its own new value. -/
theorem exec_eq_csrSwap {csr : BitVec 12} {rd k : BitVec 5} {i : Instr}
    (hi : i ∈ [Instr.csrrw rd csr k, .csrrwi rd csr k]) (s : State) :
    ∃ v, exec i s = .next (csrSwap (encode i) rd csr v s) := by
  simp only [List.mem_cons, List.not_mem_nil, or_false] at hi
  obtain rfl | rfl := hi
  all_goals exact ⟨_, rfl⟩

/-- Settles O52: a refused check leaves the state but for its response, and IllegalInstr follows. -/
theorem refusedCsrInstructionsTrap : Obligations.RefusedCsrInstructionsTrap := by
  intro s csr rd k hf hpc
  have trap (i : Instr) := raiseIllegal_eq_trapped hpc (encode i) (.ok (some 0))
  refine ⟨fun h i hi => ?_, fun h i hi => ?_⟩
  · obtain ⟨v, hexec⟩ := exec_eq_csrSwap hi s
    obtain ⟨u, hu, htrap⟩ := trap i
    rw [hexec, csrSwap_refused hf h, htrap]
    exact ⟨u, hu, rfl⟩
  · obtain ⟨f, hexec⟩ := exec_eq_csrModify hi s
    obtain ⟨u, hu, htrap⟩ := trap i
    rw [hexec, csrModify_refused hf h, htrap]
    exact ⟨u, hu, rfl⟩

/-! ### The CSR write of an instruction (45_host_ports.md R445 to R451, log 8) -/

/-- A CSR write the block performs answers Ok and does not halt: the register is writable, and satp has an
architecture. -/
theorem writeCsr_ok {c : Csr} {s : State} (hr : c.isReadOnly = false)
    (hsatp : c = .satp → s.params.xlen = .rv64 → archBits s ≠ 0) (p : Inputs) :
    (writeCsr c p s).out = .ok none ∧ (writeCsr c p s).faulted = s.faulted := by
  by_cases hc : c = .satp
  · obtain rfl := hc
    cases hx : s.params.xlen
    · simp only [writeCsr, writeSatp, hx]
      exact ⟨rfl, rfl⟩
    · obtain ⟨h0, -⟩ | ⟨-, a, ha, -⟩ := currentArchitecture_cases s
      · exact absurd h0 (hsatp rfl hx)
      · simp only [writeCsr, writeSatp, hx, ha]
        exact ⟨rfl, rfl⟩
  · rcases writeCsr_out c p s with ⟨-, hout⟩ | ⟨hro, -⟩ | ⟨hc', -⟩
    · refine ⟨hout, ?_⟩
      rw [writeCsr_frame]
      exact if_neg hc
    · rw [hr] at hro
      cases hro
    · exact absurd hc' hc

/-- A CSR write takes its inputs from its argument: the port stays as it is, and the last response does not matter. -/
theorem writeCsr_withPort (c : Csr) (p q : Inputs) (o : Response) (s : State) :
    writeCsr c p { s with port := q, out := o } = { writeCsr c p s with port := q } := by
  cases c
  case satp =>
    have harch : currentArchitecture { s with port := q, out := o } = currentArchitecture s := rfl
    simp only [writeCsr, writeSatp, harch]
    cases s.params.xlen
    · rfl
    · cases currentArchitecture s <;> rfl
  all_goals rfl

theorem writeCsr_x (c : Csr) (p : Inputs) (s : State) : (writeCsr c p s).x = s.x := by
  rw [writeCsr_frame]

/-- After a CSR write that answered Ok, the old value goes to x[rd], RETIRE runs and the pc moves on. -/
theorem csrWriteBack_of_ok {csr : BitVec 12} {v : Word} {s u : State} (hu : csrWriteAt csr (hostInputs v s) s = u)
    (hout : u.out = .ok none) (hf : u.faulted = false) (word : BitVec 32) (rd : BitVec 5) (t : Word) :
    csrWriteBack word rd csr true v t s = retiredAt { u with x := regsAfter u rd t } (nextPc s) := by
  rw [csrWriteBack, if_pos rfl, hu, onResponse_ok hout, finishAt_writeX hf, nextInstr_eq_nextPc]

theorem csrWriteAt_addr {c : Csr} {s : State} (hf : s.faulted = false) (ha : c.assignedAt s.params.xlen = true)
    (p : Inputs) : csrWriteAt c.addr p s = writeCsr c p s := by
  rw [csrWriteAt, Csr.ofAddr_addr]
  exact csrWrite_running p hf ha

/-- The write of a CSR instruction is CSR_WRITE with the host's inputs on the port. -/
theorem csrWriteBack_writes {c : Csr} {s : State} (hf : s.faulted = false) (ha : c.assignedAt s.params.xlen = true)
    (hr : c.isReadOnly = false) (hsatp : c = .satp → s.params.xlen = .rv64 → archBits s ≠ 0) (word : BitVec 32)
    (rd : BitVec 5) (v t : Word) (o : Response) :
    ∃ u, exec c.writeInstr (driven s v) = .next u ∧ u.out = .ok none ∧
      csrWriteBack word rd c.addr true v t { s with out := o } =
        retiredAt { u with port := s.port, x := regsAfter s rd t } (nextPc s) := by
  have hinputs : hostInputs v { s with out := o } = (driven s v).port := by
    rw [hostInputs, nextInstr_eq_nextPc]
    rfl
  have hwrite : csrWriteAt c.addr (hostInputs v { s with out := o }) { s with out := o } =
      { writeCsr c (driven s v).port (driven s v) with port := s.port } := by
    rw [hinputs, csrWriteAt_addr (s := { s with out := o }) hf ha, ← writeCsr_withPort _ _ _ o]
    rfl
  obtain ⟨hout, hrunning⟩ := writeCsr_ok (s := driven s v) hr hsatp (driven s v).port
  refine ⟨_, exec_writeInstr_running (s := driven s v) hf c ha rfl, hout, ?_⟩
  rw [csrWriteBack_of_ok hwrite hout (hrunning.trans hf), regsAfter, writeCsr_x]
  rfl

theorem csrWriteBack_reads {s : State} (hf : s.faulted = false) (word : BitVec 32) (rd : BitVec 5) (csr : BitVec 12)
    (v t : Word) (o : Response) :
    csrWriteBack word rd csr false v t { s with out := o } =
      retiredAt { s with x := regsAfter s rd t } (nextPc s) := by
  rw [csrWriteBack, if_neg Bool.false_ne_true, finishAt_writeX (s := { s with out := o }) hf, nextInstr_eq_nextPc]
  rfl

/-! ### CSR instructions that pass the access check -/

theorem readCsr_withOut (c : Csr) (o : Response) (s : State) : readCsr c { s with out := o } = readCsr c s := by
  cases c <;> rfl

section Running

variable {s : State} (hf : s.faulted = false) {c : Csr}
include hf

theorem csrReadAt_running (ha : c.assignedAt s.params.xlen = true) (o : Response) :
    csrReadAt c.addr { s with out := o } = { s with out := .ok (some (readCsr c s)) } := by
  rw [csrReadAt, Csr.ofAddr_addr]
  dsimp only
  rw [csrRead_running (s := { s with out := o }) hf ha, readCsr_withOut]
  rfl

theorem csrModify_allowed {w : Bool} (h : mayAccess w c.addr s = true) (word : BitVec 32) (rd : BitVec 5)
    (f : Word → Word) :
    csrModify word rd c.addr w f s =
      csrWriteBack word rd c.addr w (f (readCsr c s)) (readCsr c s) { s with out := .ok (some (readCsr c s)) } := by
  rw [csrModify, accessCheck_running hf, h, onResponse_ok rfl, if_neg (by decide),
    csrReadAt_running hf (assignedAt_of_mayAccess h), onResponse_ok rfl]
  rfl

/-- With rd = x0 the CSR is not read, and what stands in for its value is discarded. -/
theorem csrSwap_allowed (h : mayAccess true c.addr s = true) (word : BitVec 32) (rd : BitVec 5) (v : Word) :
    ∃ t o, regsAfter s rd t = regsAfter s rd (readCsr c s) ∧
      csrSwap word rd c.addr v s = csrWriteBack word rd c.addr true v t { s with out := o } := by
  rw [csrSwap, accessCheck_running hf, h, onResponse_ok rfl, if_neg (by decide)]
  by_cases hrd : rd = 0
  · refine ⟨0, _, ?_, if_pos hrd⟩
    rw [regsAfter, regsAfter, if_pos hrd, if_pos hrd]
  · rw [if_neg hrd, csrReadAt_running hf (assignedAt_of_mayAccess h), onResponse_ok rfl]
    exact ⟨_, _, rfl, rfl⟩

end Running

/-- Settles O50: after the check and the read comes the CSR_WRITE with the new value. -/
theorem csrSwapInstructions : Obligations.CsrSwapInstructions := by
  intro s c rd rs1 uimm hf h hsatp
  have ha := assignedAt_of_mayAccess h
  have swap (word : BitVec 32) (v : Word) :
      ∃ u, exec c.writeInstr (driven s v) = .next u ∧ u.out = .ok none ∧
        csrSwap word rd c.addr v s =
          retiredAt { u with port := s.port, x := regsAfter s rd (readCsr c s) } (nextPc s) := by
    obtain ⟨t, o, ht, hswap⟩ := csrSwap_allowed hf h word rd v
    rw [hswap, ← ht]
    exact csrWriteBack_writes hf ha (not_isReadOnly_of_mayAccess h) hsatp word rd v t o
  obtain ⟨u, hu, hout, hreg⟩ := swap (encode (.csrrw rd c.addr rs1)) (reg s rs1)
  obtain ⟨u', hu', hout', himm⟩ := swap (encode (.csrrwi rd c.addr uimm)) (uimm.setWidth 64)
  exact ⟨_, exec_readInstr_running hf c ha rfl, ⟨u, hu, hout, congrArg _ hreg⟩, ⟨u', hu', hout', congrArg _ himm⟩⟩

/-- Settles O51: with a zero operand the write is left out, and else it writes the instruction's function of the old
value. -/
theorem csrModifyInstructions : Obligations.CsrModifyInstructions := by
  intro s c rd k hf hsatp
  refine ⟨fun h => ?_, fun h hk => ?_⟩
  · refine ⟨_, exec_readInstr_running hf c (assignedAt_of_mayAccess h) rfl, fun i hi => ?_⟩
    obtain ⟨f, hexec⟩ := exec_eq_csrModify hi s
    rw [hexec, show decide ((0 : BitVec 5) ≠ 0) = false from rfl, csrModify_allowed hf h, csrWriteBack_reads hf]
  · have ha := assignedAt_of_mayAccess h
    refine ⟨_, exec_readInstr_running hf c ha rfl, ?_⟩
    have modify {i : Instr} {f : Word → Word}
        (hexec : exec i s = .next (csrModify (encode i) rd c.addr (decide (k ≠ 0)) f s)) :
        ∃ u, exec c.writeInstr (driven s (f (readCsr c s))) = .next u ∧ u.out = .ok none ∧
          exec i s = .next (retiredAt { u with port := s.port, x := regsAfter s rd (readCsr c s) } (nextPc s)) := by
      rw [hexec, decide_eq_true hk, csrModify_allowed hf h]
      obtain ⟨u, hu, hout, hback⟩ := csrWriteBack_writes hf ha (not_isReadOnly_of_mayAccess h) hsatp (encode i) rd
        (f (readCsr c s)) (readCsr c s) (.ok (some (readCsr c s)))
      exact ⟨u, hu, hout, congrArg _ hback⟩
    intro iw hiw
    simp only [List.mem_cons, List.not_mem_nil, or_false] at hiw
    obtain rfl | rfl | rfl | rfl := hiw
    · exact modify (f := fun t => t ||| readX s k) rfl
    · exact modify (f := fun t => t &&& ~~~(readX s k)) rfl
    · exact modify (f := fun t => t ||| k.setWidth 64) rfl
    · exact modify (f := fun t => t &&& ~~~(k.setWidth 64)) rfl

end Sys2Proof.Machine

namespace Sys2Proof.Machine

/-! ### What a command that does not answer Ok leaves (60_exceptions.md R501, R502) -/

/-- `t` follows `s` as R501 and R502 say: a rejection leaves all but the response, a fault all but that and `faulted`. -/
structure RefusesCleanly (s t : State) : Prop where
  rejected : ∀ r, t.out = .rejected r → t = { s with out := .rejected r }
  fault : ∀ r, t.out = .fault r → t = { s with faulted := true, out := .fault r }

theorem Answers.refusesCleanly {s t : State} (h : Answers s t) : RefusesCleanly s t where
  rejected r hr := by
    rw [← hr]
    exact h.frame
  fault r hr := by
    rw [← hr, ← h.fault r hr]
    exact h.frame

theorem State.fail_refusesCleanly (s : State) (r : FaultReason) : RefusesCleanly s (s.fail r) :=
  ⟨nofun, fun _ hr => by cases hr; rfl⟩

/-- Nothing is asked of a command that answers Ok. -/
theorem RefusesCleanly.of_ok {s t : State} {d : Option Word} (h : t.out = .ok d) : RefusesCleanly s t :=
  ⟨fun _ hr => (nomatch h.symm.trans hr), fun _ hr => (nomatch h.symm.trans hr)⟩

theorem writeCsr_refusesCleanly (c : Csr) (p : Inputs) (s : State) : RefusesCleanly s (writeCsr c p s) := by
  rcases writeCsr_out c p s with ⟨-, hok⟩ | ⟨-, h⟩ | ⟨-, h⟩
  · exact .of_ok hok
  · rw [h]
    exact (Answers.reject s _).refusesCleanly
  · rw [h]
    exact s.fail_refusesCleanly _

theorem intWrite_refusesCleanly (r : IntReg) (p : Inputs) (s : State) : RefusesCleanly s (intWrite r p s) := by
  rcases intWrite_cases r p s with h | ⟨-, _, -, h⟩ | ⟨-, h⟩ | ⟨-, h⟩ | ⟨-, h⟩ | ⟨-, h⟩ | ⟨-, h⟩
  · exact h.refusesCleanly
  all_goals exact .of_ok (congrArg State.out h)

theorem retireInstruction_refusesCleanly (s : State) : RefusesCleanly s (retireInstruction s) := by
  rcases retireInstruction_cases s with h | ⟨-, h⟩
  · exact h.refusesCleanly
  · exact .of_ok (congrArg State.out h)

theorem trapEnter_refusesCleanly (interrupt : Bool) (code tval epc : Word) (s : State) :
    RefusesCleanly s (trapEnter interrupt code tval epc s) := by
  rcases trapEnter_cases interrupt code tval epc s with h | h | ⟨-, _, -, h⟩ | ⟨-, _, -, h⟩
  · exact h.refusesCleanly
  · rw [h]
    exact s.fail_refusesCleanly _
  all_goals exact .of_ok (congrArg State.out h)

theorem machineReturn_refusesCleanly (s : State) : RefusesCleanly s (machineReturn s) := by
  rcases machineReturn_cases s with h | h | ⟨_, -, -, h⟩
  · exact h.refusesCleanly
  · rw [h]
    exact s.fail_refusesCleanly _
  · exact .of_ok (congrArg State.out h)

theorem supervisorReturn_refusesCleanly (s : State) : RefusesCleanly s (supervisorReturn s) := by
  rcases supervisorReturn_cases s with h | ⟨-, h⟩
  · exact h.refusesCleanly
  · exact .of_ok (congrArg State.out h)

theorem resetCommand_refusesCleanly (p : Inputs) (s : State) : RefusesCleanly s (resetCommand p s) := by
  rcases resetCommand_cases p s with h | ⟨-, h⟩
  · exact h.refusesCleanly
  · exact .of_ok (congrArg State.out h)

/-- Each effect a command can have is a success, a bare response or a bare halt. -/
theorem CommandEffect.refusesCleanly {i : Instr} {s t : State} (h : CommandEffect s i t) : RefusesCleanly s t := by
  cases h with
  | answers h => exact h.refusesCleanly
  | effPrivFails | curArchFails => exact s.fail_refusesCleanly _
  | csrWrite c => exact writeCsr_refusesCleanly c s.port s
  | rawWrite c => exact .of_ok rfl
  | intWrite r => exact intWrite_refusesCleanly r s.port s
  | retire => exact retireInstruction_refusesCleanly s
  | trapException | trapInterrupt => exact trapEnter_refusesCleanly _ _ _ _ s
  | machineReturn => exact machineReturn_refusesCleanly s
  | supervisorReturn => exact supervisorReturn_refusesCleanly s
  | reset => exact resetCommand_refusesCleanly s.port s

/-- Settles O41: a command that answers Rejected or Fault has only an effect that writes nothing. -/
theorem rejectionsAndFaultsWriteNothing : Obligations.RejectionsAndFaultsWriteNothing := fun _ _ _ hc h =>
  have ⟨rejected, fault⟩ := (commandEffect hc h).refusesCleanly
  ⟨rejected, fault⟩

end Sys2Proof.Machine

namespace Sys2Proof.Machine

/-! ### What an instruction runs as, by its channel -/

/-- A well-formed command of the block is a body under the halt check of R502. -/
theorem exec_eq_command {i : Instr} (hc : i.channel = .command) (hw : i.wellFormed = true) (s : State) :
    ∃ f, exec i s = .next (s.command f) := by
  cases i
  case csrReadUnassigned | csrWriteUnassigned => exact ⟨_, if_pos hw⟩
  case csrrw | csrrs | csrrc | csrrwi | csrrsi | csrrci | mret | sret | ecall | ebreak | wfi => cases hc
  case trapEnterException => exact ⟨_, exec_trapInstr false s⟩
  case trapEnterInterrupt => exact ⟨_, exec_trapInstr true s⟩
  all_goals exact ⟨_, rfl⟩

/-- The forms of the eleven host instructions (45_host_ports.md R445 to R451): two for the six CSR instructions, the two
returns, the trap of ECALL and EBREAK, and WFI. -/
inductive HostEffect (s : State) : State → Prop where
  | swap (word : BitVec 32) (rd : BitVec 5) (csr : BitVec 12) (v : Word) : HostEffect s (csrSwap word rd csr v s)
  | modify (word : BitVec 32) (rd : BitVec 5) (csr : BitVec 12) (w : Bool) (f : Word → Word) :
      HostEffect s (csrModify word rd csr w f s)
  | mret (word : BitVec 32) : HostEffect s (onResponse word (machineReturn s) finishAt)
  | sret (word : BitVec 32) : HostEffect s (onResponse word (supervisorReturn s) finishAt)
  | trap (code tval : Word) : HostEffect s (hostTrap false code tval s)
  | wfi (word : BitVec 32) :
      HostEffect s (s.command fun u => if wfiRefused u then raiseIllegal word u else finishAt (nextInstr u) u)

/-- Every host instruction has one of these forms. -/
theorem hostEffect {i : Instr} (hc : i.channel = .instruction) (s : State) :
    ∃ t, exec i s = .next t ∧ HostEffect s t := by
  cases i
  case csrrw | csrrwi => exact ⟨_, rfl, .swap _ _ _ _⟩
  case csrrs | csrrc | csrrsi | csrrci => exact ⟨_, rfl, .modify _ _ _ _ _⟩
  case mret => exact ⟨_, rfl, .mret _⟩
  case sret => exact ⟨_, rfl, .sret _⟩
  case ecall | ebreak => exact ⟨_, rfl, .trap _ _⟩
  case wfi => exact ⟨_, rfl, .wfi _⟩
  all_goals cases hc

/-! ### A halted block (60_exceptions.md R502, log 11) -/

/-- The host ends an instruction at the first command that answers Halted. -/
theorem onResponse_halted {s : State} (hf : s.faulted = true) (f : State → State) (word : BitVec 32)
    (k : Word → State → State) : onResponse word (s.command f) k = { s with out := .fault .halted } := by
  rw [State.command_halted hf, onResponse_fault rfl]

theorem hostTrap_halted {s : State} (hf : s.faulted = true) (interrupt : Bool) (code tval : Word) :
    hostTrap interrupt code tval s = { s with out := .fault .halted } := by
  rw [hostTrap, trapEnter, State.command_halted hf]

theorem HostEffect.halted {s t : State} (h : HostEffect s t) (hf : s.faulted = true) :
    t = { s with out := .fault .halted } := by
  cases h with
  | swap | modify | mret | sret => exact onResponse_halted hf _ _ _
  | trap code tval => exact hostTrap_halted hf false code tval
  | wfi => exact State.command_halted hf _

/-- Settles O7: a command is refused by the halt check, a host instruction at its first command. -/
theorem haltedBlockAnswersHalted : Obligations.HaltedBlockAnswersHalted := by
  intro i s hw hf
  cases hc : i.channel with
  | command =>
    obtain ⟨f, h⟩ := exec_eq_command hc hw s
    rw [h, State.command_halted hf]
  | instruction =>
    obtain ⟨t, h, heffect⟩ := hostEffect hc s
    rw [h, heffect.halted hf]

/-! ### An instruction leaves the parameters, the port and what is pending (60_exceptions.md R500, log 8) -/

/-- `t` has the parameters, the inputs on the port and the pending list of `s`. -/
structure KeepsInputs (s t : State) : Prop where
  params : t.params = s.params
  port : t.port = s.port
  pending : t.pending = s.pending

theorem KeepsInputs.refl (s : State) : KeepsInputs s s := ⟨rfl, rfl, rfl⟩

theorem KeepsInputs.trans {s u t : State} (h : KeepsInputs s u) (h' : KeepsInputs u t) : KeepsInputs s t :=
  ⟨h'.params.trans h.params, h'.port.trans h.port, h'.pending.trans h.pending⟩

theorem Answers.keepsInputs {s t : State} (h : Answers s t) : KeepsInputs s t := by
  rw [h.frame]
  exact ⟨rfl, rfl, rfl⟩

theorem State.fail_keepsInputs (s : State) (r : FaultReason) : KeepsInputs s (s.fail r) := ⟨rfl, rfl, rfl⟩

theorem writeCsr_keepsInputs (c : Csr) (p : Inputs) (s : State) : KeepsInputs s (writeCsr c p s) := by
  rw [writeCsr_frame]
  exact ⟨rfl, rfl, rfl⟩

theorem rawCommit_keepsInputs (c : Csr) (m d : Word) (s : State) :
    KeepsInputs s ((rawCommit c m d s).respond none) := by
  rw [rawCommit_frame]
  exact ⟨rfl, rfl, rfl⟩

theorem intWrite_keepsInputs (r : IntReg) (p : Inputs) (s : State) : KeepsInputs s (intWrite r p s) := by
  rw [intWrite_frame]
  exact ⟨rfl, rfl, rfl⟩

theorem retireInstruction_keepsInputs (s : State) : KeepsInputs s (retireInstruction s) := by
  rcases retireInstruction_cases s with h | ⟨-, h⟩
  · exact h.keepsInputs
  · rw [h]
    exact ⟨rfl, rfl, rfl⟩

theorem trapEnter_keepsInputs (interrupt : Bool) (code tval epc : Word) (s : State) :
    KeepsInputs s (trapEnter interrupt code tval epc s) := by
  rcases trapEnter_cases interrupt code tval epc s with h | h | ⟨-, _, -, h⟩ | ⟨-, _, -, h⟩
  · exact h.keepsInputs
  all_goals rw [h]; exact ⟨rfl, rfl, rfl⟩

theorem machineReturn_keepsInputs (s : State) : KeepsInputs s (machineReturn s) := by
  rcases machineReturn_cases s with h | h | ⟨_, -, -, h⟩
  · exact h.keepsInputs
  all_goals rw [h]; exact ⟨rfl, rfl, rfl⟩

theorem supervisorReturn_keepsInputs (s : State) : KeepsInputs s (supervisorReturn s) := by
  rcases supervisorReturn_cases s with h | ⟨-, h⟩
  · exact h.keepsInputs
  · rw [h]
    exact ⟨rfl, rfl, rfl⟩

theorem resetCommand_keepsInputs (p : Inputs) (s : State) : KeepsInputs s (resetCommand p s) := by
  rcases resetCommand_cases p s with h | ⟨-, h⟩
  · exact h.keepsInputs
  · rw [h]
    exact ⟨rfl, rfl, rfl⟩

theorem CommandEffect.keepsInputs {i : Instr} {s t : State} (h : CommandEffect s i t) : KeepsInputs s t := by
  cases h with
  | answers h => exact h.keepsInputs
  | effPrivFails | curArchFails => exact s.fail_keepsInputs _
  | csrWrite c => exact writeCsr_keepsInputs c s.port s
  | rawWrite c => exact rawCommit_keepsInputs c _ _ s
  | intWrite r => exact intWrite_keepsInputs r s.port s
  | retire => exact retireInstruction_keepsInputs s
  | trapException | trapInterrupt => exact trapEnter_keepsInputs _ _ _ _ s
  | machineReturn => exact machineReturn_keepsInputs s
  | supervisorReturn => exact supervisorReturn_keepsInputs s
  | reset => exact resetCommand_keepsInputs s.port s

theorem csrWriteAt_keepsInputs (addr : BitVec 12) (p : Inputs) (s : State) : KeepsInputs s (csrWriteAt addr p s) := by
  unfold csrWriteAt
  split
  · rename_i c _
    rcases csrWrite_cases c p s with h | ⟨-, -, h⟩
    · exact h.keepsInputs
    · rw [h]
      exact writeCsr_keepsInputs c p s
  · exact (noSuchCsr_answers s).keepsInputs

theorem writeX_keepsInputs (s : State) (r : BitVec 5) (v : Word) : KeepsInputs s (s.writeX r v) := by
  rw [writeX_eq_regsAfter]
  exact ⟨rfl, rfl, rfl⟩

theorem setPc_keepsInputs (s : State) (a : Word) : KeepsInputs s (s.setPc a) := ⟨rfl, rfl, rfl⟩

theorem finishAt_keepsInputs (a : Word) (s : State) : KeepsInputs s (finishAt a s) :=
  (retireInstruction_keepsInputs s).trans (setPc_keepsInputs _ a)

theorem hostTrap_keepsInputs (interrupt : Bool) (code tval : Word) (s : State) :
    KeepsInputs s (hostTrap interrupt code tval s) := by
  have htrap := trapEnter_keepsInputs interrupt code tval s.pc s
  rcases hostTrap_cases interrupt code tval s with ⟨target, -, h⟩ | ⟨-, h⟩
  · rw [h]
    exact htrap.trans (setPc_keepsInputs _ target)
  · rw [h]
    exact htrap

theorem raiseIllegal_keepsInputs (word : BitVec 32) (s : State) : KeepsInputs s (raiseIllegal word s) :=
  hostTrap_keepsInputs _ _ _ s

/-- The host goes on from a command that kept the inputs, and each way of going on keeps them. -/
theorem KeepsInputs.onResponse {s u : State} (h : KeepsInputs s u) (word : BitVec 32) {k : Word → State → State}
    (hk : ∀ d, KeepsInputs u (k d u)) : KeepsInputs s (onResponse word u k) := by
  refine h.trans ?_
  cases hout : u.out with
  | ok d =>
    rw [onResponse_ok hout]
    exact hk _
  | rejected r =>
    rw [onResponse_rejected hout]
    exact raiseIllegal_keepsInputs word u
  | fault r =>
    rw [onResponse_fault hout]
    exact .refl u

theorem csrWriteBack_keepsInputs (word : BitVec 32) (rd : BitVec 5) (csr : BitVec 12) (w : Bool) (v t : Word)
    (s : State) : KeepsInputs s (csrWriteBack word rd csr w v t s) := by
  have finish (a : Word) (u : State) : KeepsInputs u (finishAt a (u.writeX rd t)) :=
    (writeX_keepsInputs u rd t).trans (finishAt_keepsInputs a _)
  unfold csrWriteBack
  dsimp only
  split
  · exact (csrWriteAt_keepsInputs csr _ s).onResponse word fun _ => finish _ _
  · exact finish _ s

/-- The access check and what follows it, in either form of a CSR instruction. -/
theorem afterAccessCheck_keepsInputs (word : BitVec 32) (w : Bool) (csr : BitVec 12) {k : State → State}
    (hk : ∀ u, KeepsInputs u (k u)) (s : State) :
    KeepsInputs s (onResponse word (accessCheck w csr s) fun allowed u =>
      if allowed = 0 then raiseIllegal word u else k u) := by
  refine (accessCheck_answers w csr s).keepsInputs.onResponse word fun allowed => ?_
  split
  · exact raiseIllegal_keepsInputs word _
  · exact hk _

/-- The CSR read and the write back, in either form of a CSR instruction. -/
theorem afterRead_keepsInputs (word : BitVec 32) (rd : BitVec 5) (csr : BitVec 12) (w : Bool) (f : Word → Word)
    (s : State) :
    KeepsInputs s (onResponse word (csrReadAt csr s) fun t u => csrWriteBack word rd csr w (f t) t u) :=
  (csrReadAt_answers csr s).keepsInputs.onResponse word fun t => csrWriteBack_keepsInputs word rd csr w (f t) t _

theorem csrSwap_keepsInputs (word : BitVec 32) (rd : BitVec 5) (csr : BitVec 12) (v : Word) (s : State) :
    KeepsInputs s (csrSwap word rd csr v s) := by
  refine afterAccessCheck_keepsInputs word true csr (fun u => ?_) s
  split
  · exact csrWriteBack_keepsInputs word rd csr true v 0 u
  · exact afterRead_keepsInputs word rd csr true (fun _ => v) u

theorem csrModify_keepsInputs (word : BitVec 32) (rd : BitVec 5) (csr : BitVec 12) (w : Bool) (f : Word → Word)
    (s : State) : KeepsInputs s (csrModify word rd csr w f s) :=
  afterAccessCheck_keepsInputs word w csr (afterRead_keepsInputs word rd csr w f) s

theorem HostEffect.keepsInputs {s t : State} (h : HostEffect s t) : KeepsInputs s t := by
  cases h with
  | swap word rd csr v => exact csrSwap_keepsInputs word rd csr v s
  | modify word rd csr w f => exact csrModify_keepsInputs word rd csr w f s
  | mret word => exact (machineReturn_keepsInputs s).onResponse word fun a => finishAt_keepsInputs a _
  | sret word => exact (supervisorReturn_keepsInputs s).onResponse word fun a => finishAt_keepsInputs a _
  | trap code tval => exact hostTrap_keepsInputs false code tval s
  | wfi word =>
    rcases s.command_cases _ with ⟨hs, e⟩ | ⟨-, e⟩
    · exact (Answers.halted hs e).keepsInputs
    · rw [e]
      split
      · exact raiseIllegal_keepsInputs word s
      · exact finishAt_keepsInputs _ s

/-- Settles O8: on either channel the instruction runs to a next state, and each effect it can have keeps the inputs. -/
theorem everyInstructionAnswers : Obligations.EveryInstructionAnswers := by
  intro i s hw
  have ⟨t, hexec, hkeeps⟩ : ∃ t, exec i s = .next t ∧ KeepsInputs s t := by
    cases hc : i.channel with
    | command =>
      obtain ⟨f, h⟩ := exec_eq_command hc hw s
      exact ⟨_, h, (commandEffect hc h).keepsInputs⟩
    | instruction =>
      obtain ⟨t, h, heffect⟩ := hostEffect hc s
      exact ⟨t, h, heffect.keepsInputs⟩
  exact ⟨t, hexec, hkeeps.params, hkeeps.port, hkeeps.pending⟩

end Sys2Proof.Machine

namespace Sys2Proof.Machine

open Sys2Proof.Claims

/-! ### misa and mstatus after RESET (10_state.md R36, R41) -/

/-- MXL holds the code of XLEN. -/
theorem getLsbD_mxlCode (x : Xlen) (w : Word) {n : Nat} (hn : n < 64) :
    (setField w (Misa.mxl x) x.arch.code).getLsbD n =
      match x with
      | .rv32 => if n = 30 then true else if n = 31 then false else w.getLsbD n
      | .rv64 => if n = 62 then false else if n = 63 then true else w.getLsbD n := by
  cases x
  · exact getLsbD_setPair w _ 30 hn
  · exact getLsbD_setPair w _ 62 hn

theorem getLsbD_resetMisa (s : State) : ∀ n < 64,
    (resetMisa s.params s.port.caps).getLsbD n = misaBitAfterReset s n := by
  intro n hn
  have above (h : 26 ≤ n) : s.params.misaFixed.getLsbD n = false := BitVec.getLsbD_of_ge _ _ h
  rw [resetMisa, getLsbD_mxlCode _ _ hn, getLsbD_setBit _ _ _ hn, getLsbD_setBit _ _ _ hn, getLsbD_setBit _ _ _ hn,
    misaBitAfterReset]
  simp only [Misa.c, Misa.d, Misa.f, getLsbD_flagWord, BitVec.getLsbD_setWidth]
  cases s.params.xlen <;> grind

/-- The draw supplies these bits, UIE and UPIE only where the hart has N. -/
theorem getLsbD_maskedDraw (hasN : Bool) (d : Word) {n : Nat} (hn : n < 64) :
    (d &&& drawnMstatus hasN).getLsbD n =
      if n ∈ [0, 4] then d.getLsbD n && hasN
      else if n ∈ [1, 5, 7, 8, 11, 12, 13, 14, 18, 19, 20, 21, 22] then d.getLsbD n
      else false := by
  rw [BitVec.getLsbD_and]
  generalize d.getLsbD n = b
  cases hasN <;> revert n b <;> decide

/-- SXL and UXL hold RV64 at XLEN=64. -/
theorem getLsbD_widthCodes (w : Word) {n : Nat} (hn : n < 64) :
    (setField (setField w Mstatus.sxl Architecture.rv64.code) Mstatus.uxl Architecture.rv64.code).getLsbD n =
      if 32 ≤ n ∧ n < 36 then decide (n ∈ [33, 35]) else w.getLsbD n := by
  rw [Mstatus.uxl, getLsbD_setPair _ _ 32 hn, Mstatus.sxl, getLsbD_setPair _ _ 34 hn]
  generalize w.getLsbD n = b
  revert n b
  decide

/-- XS is not drawn, so SD follows FS alone. -/
theorem getLsbD_resetMstatus (s : State) : ∀ n < 64,
    (resetMstatus s.params s.port.draw.mstatus).getLsbD n = mstatusBitAfterReset s n := by
  have hN : bitOf (s.params.misaFixed.setWidth 64) Misa.n = s.params.misaFixed.getLsbD 13 :=
    BitVec.getLsbD_setWidth ..
  have draw {n : Nat} (hn : n < 64) :=
    getLsbD_maskedDraw (s.params.misaFixed.getLsbD 13) s.port.draw.mstatus hn
  have := half_le_bits s.params.xlen
  rw [resetMstatus, hN]
  refine fun _ => getLsbD_withSd_of_bits (bit := mstatusBitAfterReset s)
    (m := s.port.draw.mstatus &&& drawnMstatus (s.params.misaFixed.getLsbD 13)) ?_ (fun k _ _ => ?_)
    (fun n hn hsd => ?_)
  · rw [mstatusBitAfterReset, if_pos rfl, dirty, draw (by decide), draw (by decide), draw (by decide),
      draw (by decide)]
    exact (Bool.or_false _).symm
  · rw [draw (by omega)]
    grind [mstatusBitAfterReset]
  · rw [mstatusBitAfterReset, if_neg hsd]
    cases s.params.xlen
    · exact (draw hn).trans (by simp)
    · refine (getLsbD_widthCodes _ hn).trans ?_
      split
      next h =>
        obtain ⟨hlo, hhi⟩ := h
        interval_cases n <;> rfl
      next h =>
        have hfixed : n ∉ [33, 35] := by simp; omega
        rw [draw hn, if_neg hfixed]

/-! ### The drawn registers (70_reset_and_hazards.md R601, log 3) -/

theorem drawnWithin_and {w : Nat} (m d : BitVec w) : DrawnWithin m d (d &&& m) :=
  ⟨within_and m d, Within.and_eq⟩

/-- A draw that loses bit `b`: that bit is 0, and a draw without it is taken as it is. -/
theorem trunc_and_not_bit {k : Word} {b : Nat} (hb : b < 64) (hk : ∀ n < 64, k.getLsbD n = decide (n = b)) (x : Xlen)
    (d : Word) :
    (x.trunc d &&& ~~~k).getLsbD b = false ∧ (d.getLsbD b = false → x.trunc d &&& ~~~k = low x d) := by
  refine ⟨?_, fun h => ?_⟩
  · rw [getLsbD_and_not, hk b hb, decide_eq_true rfl, Bool.not_true, Bool.and_false]
  · rw [low_eq_trunc]
    apply word_ext
    intro n hn
    rw [getLsbD_and_not, hk n hn, Xlen.getLsbD_trunc]
    by_cases hnb : n = b
    · simp [hnb, h]
    · simp [hnb]

theorem drawTvec_spec (x : Xlen) (d : Word) :
    (drawTvec x d).getLsbD 1 = false ∧ (d.getLsbD 1 = false → drawTvec x d = low x d) :=
  trunc_and_not_bit (by decide) (by decide) x d

theorem drawEpc_spec (x : Xlen) (d : Word) :
    (drawEpc x d).getLsbD 0 = false ∧ (d.getLsbD 0 = false → drawEpc x d = low x d) :=
  trunc_and_not_bit (by decide) (by decide) x d

theorem drawSatp_rv32 {q : Params} (hx : q.xlen = .rv32) (d : Word) : drawSatp q d = lo32 d := by
  rw [drawSatp, hx, lo32_eq_lowHalf]
  rfl

/-- The modes a drawn 64-bit satp may have. -/
def drawnSatpModes (haveSv48 : Bool) : List Nat := if haveSv48 then [0, 8, 9] else [0, 8]

theorem drawSatp_rv64 {q : Params} (hx : q.xlen = .rv64) (d : Word) :
    drawSatp q d =
      if (d.extractLsb' 60 4).toNat ∈ drawnSatpModes q.haveSv48 then d else setField d ⟨63, 60⟩ 0 := by
  have bare : getField d ⟨63, 60⟩ = 0 ↔ _ := satpMode_eq_iff d (k := 0) (by decide)
  have sv39 : getField d ⟨63, 60⟩ = 8 ↔ _ := satpMode_eq_iff d (k := 8) (by decide)
  have sv48 : getField d ⟨63, 60⟩ = 9 ↔ _ := satpMode_eq_iff d (k := 9) (by decide)
  rw [drawSatp, hx]
  refine if_congr ?_ rfl rfl
  rw [bare, sv39, sv48, drawnSatpModes]
  cases q.haveSv48 <;> simp

theorem drawSatp_rv64_spec {q : Params} (hx : q.xlen = .rv64) (d : Word) :
    ((drawSatp q d).extractLsb' 60 4).toNat ∈ drawnSatpModes q.haveSv48 ∧
      ((d.extractLsb' 60 4).toNat ∈ drawnSatpModes q.haveSv48 → drawSatp q d = d) := by
  rw [drawSatp_rv64 hx]
  split
  next h => exact ⟨h, fun _ => rfl⟩
  next h =>
    have hbare : ((setField d ⟨63, 60⟩ 0).extractLsb' 60 4).toNat = 0 :=
      (satpMode_eq_iff _ (by decide)).1 (getField_setField_same (by decide) d 0)
    refine ⟨?_, fun h' => absurd h' h⟩
    rw [hbare, drawnSatpModes]
    cases q.haveSv48 <;> decide

/-! ### RESET (70_reset_and_hazards.md R600) -/

theorem exec_reset_running {s : State} (hf : s.faulted = false) :
    exec .reset s = .next ((resetBlock s.port s).respond none) :=
  congrArg _ (State.command_running hf _)

/-- Settles O49: the fixed items bit by bit, and each drawn one by what its register takes of a draw. -/
theorem resetState : Obligations.ResetState := by
  refine ⟨by unfold words; decide, fun s => haltedBlockAnswersHalted .reset s rfl, fun s hf => ?_⟩
  have trunc (d : Word) : s.params.xlen.trunc d = low s.params.xlen d := (low_eq_trunc _ d).symm
  have tvec := drawTvec_spec s.params.xlen
  have epc := drawEpc_spec s.params.xlen
  exact ⟨_, exec_reset_running hf, rfl, hf, rfl, rfl, rfl, getLsbD_resetMisa s, getLsbD_resetMstatus s,
    drawnWithin_and _ _, drawnWithin_and _ _, drawnWithin_and _ _, drawnWithin_and _ _,
    (tvec _).1, (tvec _).2, (tvec _).1, (tvec _).2, (epc _).1, (epc _).2, (epc _).1, (epc _).2,
    trunc _, trunc _, trunc _, trunc _, trunc _, trunc _, trunc _,
    drawnWithin_and _ _, drawnWithin_and _ _, drawnWithin_and _ _,
    fun hx => drawSatp_rv32 hx _, fun hx => drawSatp_rv64_spec hx _, rfl, rfl, rfl, trunc _⟩

end Sys2Proof.Machine
